-- ==== Sys2Proof/Word.lean ====
section
/-! DEFINITION. The word and byte of the part, and the numbers of its objects. -/

namespace Sys2Proof

/-- A word is 16 bits; bit 15 is the most significant (00, Conventions). -/
abbrev Word := BitVec 16

/-- A byte of 8-bit data mode (R1). -/
abbrev Byte := BitVec 8

/-- A volunteer: index `i` is volunteer number `i + 1`, of 1 to 240 (00, Numbering of objects). -/
abbrev VolunteerIx := Fin 240

/-- A home unit: index `i` is unit number `i + 1`, of 1 to 160. -/
abbrev UnitIx := Fin 160

/-- An incident slot, 0 to 3. -/
abbrev Slot := Fin 4

/-- A role: index `i` is role number `i + 1`, of 1 to 6. -/
abbrev RoleIx := Fin 6

end Sys2Proof
end

