-- ==== Sys2Proof/Config.lean ====
section
/-! DEFINITION. What a board around the part fixes, and the values the model chose where the spec gives none. -/

namespace Sys2Proof

/-- The three strap pins as sampled (R1). -/
structure Straps where
  /-- ADDRW: true for 20-bit addresses. -/
  addr20 : Bool
  /-- DW: true for 8-bit data. -/
  data8 : Bool
  /-- BASE[3:0], the region number as sampled. -/
  base : BitVec 4
  deriving DecidableEq, Repr

/-- DESIGN CHOICE (log 1; unsafe): the straps of `State.reset`, all low. The spec gives no value: they are "as sampled". -/
def Config.resetStraps : Straps := { addr20 := false, data8 := false, base := 0 }

/-- DESIGN CHOICE (log 2; unsafe): what a byte of the static RAM reads as before anything was written to it. -/
def Config.blankByte : Byte := 0

/-- DESIGN CHOICE (log 4; unsafe): the level of RDY in `State.reset`. -/
def Config.resetRdy : Bool := true

/-- DESIGN CHOICE (log 4; unsafe): the level of CD in `State.reset`. -/
def Config.resetCd : Bool := false

end Sys2Proof
end

