-- ==== Sys2Proof/Syntax.lean ====
section
/-! DEFINITION. The commands of the part: one constructor for each row of spec/opcode_table.json, with its operands. -/

namespace Sys2Proof

/-- The levels of the radio's two status lines while a step is taken (R71; log 4). -/
structure Lines where
  /-- RDY: true when the radio is ready. -/
  rdy : Bool
  /-- CD: true while a carrier is detected. -/
  cd : Bool
  deriving DecidableEq, Repr

/-- One bus cycle as the controller issues it. In 8-bit mode only the low byte of `data` is on SD. -/
structure BusCycle where
  /-- SA[19:0]. -/
  sa : BitVec 20
  /-- True for a write, false for a read. -/
  write : Bool
  /-- SD of a write; of no meaning for a read. -/
  data : Word
  deriving DecidableEq, Repr

/-- The two notify lines (chapter 8). -/
inductive NoteLine where
  | a
  | b
  deriving DecidableEq, Repr

/-- The blocks a board capture can hold (R8). -/
inductive BlockName where
  /-- The incident block of a slot. -/
  | incident (s : Slot)
  /-- The live block of a unit. -/
  | unit (u : UnitIx)
  deriving DecidableEq, Repr

/-- The six words of a reply after its lead-in, as received (R85, 11.3). -/
structure Reply where
  addressStatus : Word
  eventA : Word
  eventB : Word
  result1 : Word
  result2 : Word
  check : Word
  deriving DecidableEq, Repr

/-- The commands. Region offsets are word offsets from the start of the part's region (R2). A word command carries a
whole word; in 8-bit data mode it stands for its two byte cycles, low byte first (log 6). A command that can reach a
ready check carries the levels of RDY and CD while it is taken (log 4). -/
inductive Instr where
  /-- PLAIN_CYCLE (R4): a cycle that passes unchanged to the static RAM. -/
  | plainCycle (c : BusCycle)
  /-- SETUP_WRITE (R19): a word written to a SETUP offset. -/
  | setupWrite (off : Fin 256) (w : Word)
  /-- SCAN_RUN_ON (R23): a scan run word with bit 0 set; `rest` is bits 15 to 1, which carry no field. -/
  | scanRunOn (rest : BitVec 15) (ln : Lines)
  /-- SCAN_RUN_OFF (R24): a scan run word with bit 0 clear. -/
  | scanRunOff (rest : BitVec 15) (ln : Lines)
  /-- TEST_ENABLES_WRITE (R25): a word at offset 0x18. -/
  | testEnablesWrite (w : Word) (ln : Lines)
  /-- ROSTER_WORD_WRITE (R31): word 0, 1 or 2 of a volunteer's record. -/
  | rosterWordWrite (v : VolunteerIx) (k : Fin 3) (w : Word)
  /-- ROSTER_COMMIT (R32): word 3 of a volunteer's record. -/
  | rosterCommit (v : VolunteerIx) (w : Word) (ln : Lines)
  /-- UNIT_WORD0_WRITE (R49): word 0 of a unit. -/
  | unitWord0Write (u : UnitIx) (w : Word)
  /-- INQUIRY_WRITE (R64): word 1 of a unit. -/
  | inquiryWrite (u : UnitIx) (w : Word)
  /-- BOARD_READ (R6): a read of the board word at 0x2000 + `k`. -/
  | boardRead (k : Fin 4096)
  /-- BOARD_CAPTURE (R8): a read of word 0 of an incident block or unit live block. -/
  | boardCapture (b : BlockName)
  /-- LOW_BYTE_READ (R11): in 8-bit mode, the low byte of the board word at 0x2000 + `k`. -/
  | lowByteRead (k : Fin 4096)
  /-- HIGH_BYTE_READ (R11). -/
  | highByteRead (k : Fin 4096)
  /-- LOW_BYTE_WRITE (R10): in 8-bit mode, the low byte of the word at region offset `off`. -/
  | lowByteWrite (off : Fin 16384) (x : Byte)
  /-- HIGH_BYTE_WRITE (R10). -/
  | highByteWrite (off : Fin 16384) (x : Byte) (ln : Lines)
  /-- STAGING_WRITE (R12): a write of the staging word at 0x2000 + `k`. -/
  | stagingWrite (k : Fin 7) (w : Word)
  /-- OPEN (R109): request code 1 written to the action word. -/
  | openIncident (ln : Lines)
  /-- AMEND (R112): request code 2. -/
  | amend (ln : Lines)
  /-- CLOSE (R114): request code 3. -/
  | closeIncident (ln : Lines)
  /-- ADVANCE (R116): request code 4. -/
  | advance (ln : Lines)
  /-- MANUAL_ATTEND (R145): request code 5. -/
  | manualAttend (ln : Lines)
  /-- RELEASE (R147): request code 6. -/
  | release (ln : Lines)
  /-- ENGINE_CLEAR (R117): request code 7. -/
  | engineClear (ln : Lines)
  /-- REFUSED_UNKNOWN (R13): an action code that names no request. -/
  | refusedUnknown (code : Word)
  /-- NOTIFY_CLEAR (R153): a write of a line's status word. -/
  | notifyClear (l : NoteLine) (w : Word) (ln : Lines)
  /-- NOTIFY_ENABLE_WRITE (R151): a write of a line's enable word. -/
  | notifyEnableWrite (l : NoteLine) (w : Word)
  /-- COUNTER_CLEAR (R159): a write of the counter word at 0x2030 + `k`. -/
  | counterClear (k : Fin 9) (w : Word)
  /-- ERROR_RECORD_CLEAR (R27): a write of the setting error count word. -/
  | errorRecordClear (w : Word)
  /-- REJECT_RECORD_CLEAR (R35): a write of the reject count word. -/
  | rejectRecordClear (w : Word)
  /-- BOARD_WRITE_IGNORED (R7): a write of a board word, at 0x2000 + `k`, that takes none. -/
  | boardWriteIgnored (k : Fin 4096) (w : Word)
  /-- DEVICE_RESET (R16): RESET-N falls; the strap pins, and the cycle under way, if any (R17). -/
  | deviceReset (pins : Straps) (c : Option BusCycle)
  /-- RESET_RELEASE (R17): RESET-N rises; the strap pins, and the cycle under way, if any. -/
  | resetRelease (pins : Straps) (c : Option BusCycle)
  /-- RETRY_TIMER_EXPIRY (R73). -/
  | retryTimerExpiry (ln : Lines)
  /-- CD_FALL (R74). -/
  | cdFall
  /-- LBT_TIMER_EXPIRY (R74). -/
  | lbtTimerExpiry
  /-- FRAME_HEAD_END (R79): the last bit of a frame head has been sent. -/
  | frameHeadEnd (ln : Lines)
  /-- PACKET_END (R84). -/
  | packetEnd
  /-- TURNAROUND_END (R84). -/
  | turnaroundEnd
  /-- REPLY_START (R85). -/
  | replyStart
  /-- REPLY_COMPLETE (R86): the six words of the reply are in. -/
  | replyComplete (r : Reply) (ln : Lines)
  /-- REPLY_WINDOW_CLOSE (R86). -/
  | replyWindowClose (ln : Lines)
  /-- HOLD_GUARD_EXPIRY (R90). -/
  | holdGuardExpiry (ln : Lines)
  /-- STAGE_TIMER_EXPIRY (R104) of a slot's incident. -/
  | stageTimerExpiry (s : Slot) (ln : Lines)
  /-- REPULSE_TIMER_EXPIRY (R154) of a line. -/
  | repulseTimerExpiry (l : NoteLine)
  /-- TEST_RETRY_EXPIRY (R163). -/
  | testRetryExpiry (ln : Lines)
  /-- TEST_CD_FALL (R163). -/
  | testCdFall
  /-- TEST_LBT_EXPIRY (R163). -/
  | testLbtExpiry
  /-- BURST_END (R165). -/
  | burstEnd
  /-- TEST_TURNAROUND_END (R165). -/
  | testTurnaroundEnd
  /-- TEST_LEAD_IN (R165): a whole head lead-in is received. -/
  | testLeadIn
  /-- PATTERN_WORD_RECEIVED (R165): the 16 bits received. -/
  | patternWordReceived (w : Word) (ln : Lines)
  /-- PRBS_GROUP_RECEIVED (R167): the 16 bits received, the first in bit 15. -/
  | prbsGroupReceived (w : Word) (ln : Lines)
  /-- TEST_LISTEN_CLOSE (R165). -/
  | testListenClose (ln : Lines)
  /-- TIMER_SECOND (R103): the end of a timer second of a slot's stage timer. -/
  | timerSecond (s : Slot)
  deriving DecidableEq, Repr

end Sys2Proof
end

