-- ==== Sys2Proof/WellFormed.lean ====
section
/-! DEFINITION. When a command's operands are those of its row: the checks the operand types do not already make. -/

namespace Sys2Proof

/-- Board words (offset from 0x2000) whose writes do something: staging and action, the two record counts, the counters
and the notify words (R7, 11.2). -/
def boardWordTakesWrites (k : Nat) : Bool :=
  k ≤ 0x07 || k == 0x2B || k == 0x2D || (0x30 ≤ k && k ≤ 0x38) || (0x3C ≤ k && k ≤ 0x3F)

/-- Word 0 of an incident block or a unit live block (R8), as an offset from 0x2000. -/
def isCaptureWord (k : Nat) : Bool :=
  (0x080 ≤ k && k < 0x180 && (k - 0x080) % 64 == 0) || (0x400 ≤ k && k < 0x900 && (k - 0x400) % 8 == 0)

/-- The operands are those of the command's row of the table. -/
def Instr.wellFormed : Instr → Bool
  | .setupWrite off _ => off.val ≠ 0x00 && off.val ≠ 0x18
  | .boardRead k => !isCaptureWord k.val
  | .refusedUnknown code => code = 0 || 7 < code.toNat
  | .boardWriteIgnored k _ => !boardWordTakesWrites k.val
  | .plainCycle _ | .scanRunOn _ _ | .scanRunOff _ _ | .testEnablesWrite _ _ | .rosterWordWrite _ _ _
  | .rosterCommit _ _ _ | .unitWord0Write _ _ | .inquiryWrite _ _ | .boardCapture _ | .lowByteRead _
  | .highByteRead _ | .lowByteWrite _ _ | .highByteWrite _ _ _ | .stagingWrite _ _ | .openIncident _ | .amend _
  | .closeIncident _ | .advance _ | .manualAttend _ | .release _ | .engineClear _ | .notifyClear _ _ _
  | .notifyEnableWrite _ _ | .counterClear _ _ | .errorRecordClear _ | .rejectRecordClear _ | .deviceReset _ _
  | .resetRelease _ _ | .retryTimerExpiry _ | .cdFall | .lbtTimerExpiry | .frameHeadEnd _ | .packetEnd
  | .turnaroundEnd | .replyStart | .replyComplete _ _ | .replyWindowClose _ | .holdGuardExpiry _
  | .stageTimerExpiry _ _ | .repulseTimerExpiry _ | .testRetryExpiry _ | .testCdFall | .testLbtExpiry | .burstEnd
  | .testTurnaroundEnd | .testLeadIn | .patternWordReceived _ _ | .prbsGroupReceived _ _ | .testListenClose _
  | .timerSecond _ => true

end Sys2Proof
end

