-- ==== Sys2Proof/Machine/State.lean ====
section
/-! DEFINITION. The state of the part: every piece of state the spec names, as plain data, and its value after reset. -/

namespace Sys2Proof.Machine

/-! ## The memory path (chapter 1) -/

/-- Pins the part reads outside a bus cycle. -/
structure Pins where
  /-- RESET-N: true while high. -/
  resetN : Bool
  /-- RDY as last seen (R71; log 4). -/
  rdy : Bool
  /-- CD as last seen (R71; log 4). -/
  cd : Bool
  deriving DecidableEq, Repr

/-- What the part drove during the last bus cycle (R4, R6, R7; log 16). -/
structure BusView where
  /-- MCS-N active. -/
  memSelected : Bool
  /-- MRD-N active. -/
  memRead : Bool
  /-- MWR-N active. -/
  memWrite : Bool
  /-- MA. -/
  address : BitVec 20
  /-- SD of a read. -/
  answer : Word
  /-- SRDY was held not ready. -/
  waited : Bool
  deriving DecidableEq, Repr

/-- The board capture latch when HOLDING (R8). -/
structure Capture where
  block : BlockName
  words : List Word
  deriving DecidableEq, Repr

/-- The staging fields, each within its bits (R12, 11.2). -/
structure Staging where
  slot : BitVec 4
  generation : BitVec 4
  tag : Word
  station : BitVec 4
  priority : BitVec 4
  startStage : BitVec 4
  quotas : Vector (BitVec 4) 6
  cap : BitVec 6
  volunteer : BitVec 8
  eta : BitVec 4
  action : Word
  deriving DecidableEq, Repr

/-- The results of a request (R14). -/
inductive ResultCode where
  | none
  | done
  | refusedFull
  | refusedInvalid
  | refusedStale
  | refusedState
  | refusedLinkStopped
  | refusedUnknown
  deriving DecidableEq, Repr

/-- The result block (R14); `assigned` is the assigned flag with its slot and generation. -/
structure ResultBlock where
  code : ResultCode
  action : Word
  assigned : Option (Slot × BitVec 4)
  deriving DecidableEq, Repr

/-- The Bus Interposer's own state (00, Block diagram). -/
structure Bus where
  straps : Straps
  /-- The byte-pair latch: a region word offset and a low byte (R10). -/
  bytePair : Option (Nat × Byte)
  /-- The read high-byte latch: a region word offset and a high byte (R11). -/
  readHigh : Option (Nat × Byte)
  capture : Option Capture
  staging : Staging
  result : ResultBlock
  /-- The request counter, which wraps (R15). -/
  requests : Word
  view : BusView
  deriving DecidableEq, Repr

/-! ## The Settings Store (chapter 2) -/

/-- The cycle-bound settings other than scan run and the test enables (R18, R21). -/
structure LinkSettings where
  rate : Nat
  hopCount : Nat
  hopDelay : Nat
  syncCount : Nat
  lbtLimit : Nat
  carrierMask : Bool
  readyMask : Bool
  holdEnable : Bool
  holdGuard : Nat
  rising : Byte
  falling : Byte
  /-- Control-bit selects 0 to 3, a nibble each. -/
  selectsLow : Word
  /-- Control-bit selects 4 to 7. -/
  selectsHigh : Word
  syncWords : Vector Word 7
  patternWords : Vector Word 16
  patternMarks : Word
  deriving DecidableEq, Repr

/-- The two test enables (R25). -/
structure TestEnables where
  pattern : Bool
  prbs : Bool
  deriving DecidableEq, Repr

/-- One value of every setting (R18). -/
structure Settings where
  link : LinkSettings
  scanRun : Bool
  tests : TestEnables
  silentThreshold : Nat
  configured : Byte
  giving : Byte
  /-- Station k, stage s at index 4 k + (s - 1). -/
  durations : Vector Nat 32
  testScale : Bool
  deriving DecidableEq, Repr

/-- Setting error kinds (R26). -/
inductive ErrorKind where
  | none
  | outOfRange
  | testBoth
  | testWhileScanning
  | stopRefused
  | bytePair
  deriving DecidableEq, Repr

/-- The setting error record (R26). -/
structure ErrorRecord where
  kind : ErrorKind
  offset : Nat
  count : Nat
  deriving DecidableEq, Repr

structure SettingsStore where
  staged : Settings
  active : Settings
  error : ErrorRecord
  deriving DecidableEq, Repr

/-! ## The Roster Table (chapter 3) -/

/-- The two seats of a unit. -/
inductive Seat where
  | a
  | b
  deriving DecidableEq, Repr

/-- The fields of a roster record (R30). -/
structure Record where
  present : Bool
  unit : Nat
  seat : Seat
  station : Nat
  tier : Nat
  aid : Bool
  /-- Bit r - 1 for role r. -/
  roles : BitVec 6
  onCall : Bool
  deriving DecidableEq, Repr

/-- What the Roster Table holds for one volunteer (R31, R37, R38, R42). -/
structure RosterEntry where
  staged0 : Word
  staged1 : Word
  staged2 : Word
  shadow : Record
  pendingRecord : Option Record
  /-- Home availability: true for ON. -/
  home : Bool
  deriving DecidableEq, Repr

/-- Reject reasons (R33). -/
inductive RejectReason where
  | none
  | unitRange
  | stationRange
  | tierRange
  | noRole
  | seatTaken
  deriving DecidableEq, Repr

/-- The phase of a reject (R34). -/
inductive RejectPhase where
  | commit
  | application
  deriving DecidableEq, Repr

/-- The reject record (R34); `volunteer` is none when no reject is recorded. -/
structure RejectRecord where
  volunteer : Option VolunteerIx
  reason : RejectReason
  phase : RejectPhase
  count : Nat
  deriving DecidableEq, Repr

structure Roster where
  entries : Vector RosterEntry 240
  reject : RejectRecord
  deriving DecidableEq, Repr

/-! ## The Unit Table (chapter 4) -/

/-- Link states (4.2). The active enable is "not DISABLED" (log 17). -/
inductive LinkState where
  | disabled
  | unknown
  | present
  | silent
  deriving DecidableEq, Repr

/-- What an ALERT carries (4.5). -/
structure Alert where
  slot : Slot
  generation : BitVec 4
  station : Nat
  priority : Nat
  deriving DecidableEq, Repr

/-- A message to a seat, other than NONE. -/
inductive Message where
  | alert (x : Alert)
  | standDown
  deriving DecidableEq, Repr

/-- A seat's current message, when it is not NONE, with its delivery state: UNCONFIRMED or CONFIRMED. A seat holding
NONE is EMPTY (4.5), so the two are held together. -/
structure Carried where
  message : Message
  confirmed : Bool
  deriving DecidableEq, Repr

/-- One seat of a unit (4.5, 4.7). -/
structure SeatState where
  current : Option Carried
  toggle : Bool
  holder : Option Message
  /-- The last accepted event toggle; none for "none accepted". -/
  lastEvent : Option Bool
  deriving DecidableEq, Repr

/-- Inquiry states (4.8). -/
inductive InquiryState where
  | idle
  | pending
  | sent
  | done
  | failed
  deriving DecidableEq, Repr

/-- A unit's inquiry (4.8). -/
structure Inquiry where
  state : InquiryState
  code : BitVec 4
  result1 : Word
  result2 : Word
  deriving DecidableEq, Repr

/-- One unit entry (R70). -/
structure UnitEntry where
  stagedEnable : Bool
  link : LinkState
  misses : Nat
  flags : BitVec 4
  watch : BitVec 4
  changed : Bool
  echo : Bool
  seatA : SeatState
  seatB : SeatState
  inquiry : Inquiry
  waiting : Option (BitVec 4)
  deriving DecidableEq, Repr

/-! ## The Scan Controller (chapter 5) -/

/-- Why the link is in RETRY-WAIT (R72, R73). -/
inductive RetryCause where
  | notReady
  | noUnits
  deriving DecidableEq, Repr

/-- The link phase (chapter 5). -/
inductive LinkPhase where
  | stopped
  | retryWait (c : RetryCause)
  | channelWait
  | cycling
  | holding
  deriving DecidableEq, Repr

/-- A running hold guard: its setting in seconds and the scale it took (R89). -/
structure GuardTimer where
  seconds : Nat
  scaled : Bool
  deriving DecidableEq, Repr

/-- The kind of a slot (R79). -/
inductive SlotKind where
  | regular
  | urgent
  deriving DecidableEq, Repr

/-- What the receiver has found in a reply window (R85, R86). -/
inductive Heard where
  | nothing
  | started
  | wrongAddress
  | corrupt
  deriving DecidableEq, Repr

/-- What the Scan Controller has on the air (R76, R83, R84). The slot is in flight in the last three. -/
inductive Radio where
  | quiet
  /-- A frame head: its words, its control word, and the slot chosen to follow it (none after a cycle-start head). -/
  | head (words : List Word) (control : Word) (next : Option (UnitIx × SlotKind))
  /-- A command packet. -/
  | packet (words : List Word)
  /-- The 5 ms turnaround. -/
  | turnaround
  /-- The reply window: its length in ticks (`ticksPerMs`), and what was heard. -/
  | window (ticks : Nat) (heard : Heard)
  deriving DecidableEq, Repr

structure Scan where
  phase : LinkPhase
  /-- The 1 s retry timer is running. -/
  retryTimer : Bool
  /-- The listen-before-talk timer, in units of 100 ms, while running. -/
  lbtTimer : Option Nat
  guardTimer : Option GuardTimer
  /-- The cycle counter, which wraps (R75). -/
  cycle : Word
  lastHead : Word
  /-- A not-ready episode stands (R73). -/
  episode : Bool
  /-- The urgent list, oldest join first (R81). -/
  urgent : List UnitIx
  hadSlot : Vector Bool 160
  hadUrgent : Vector Bool 160
  passPos : UnitIx
  changeSeen : Bool
  changeFound : Bool
  /-- The unit and kind of the slot in flight, or of the last slot (R83). -/
  slotShown : Option (UnitIx × SlotKind)
  radio : Radio
  deriving DecidableEq, Repr

/-! ## The Callout Engine (chapters 6 and 7) -/

/-- States of an incident slot (R99). -/
inductive SlotState where
  | free
  | calling
  | complete
  | short
  deriving DecidableEq, Repr

/-- An attendee's assignment (R98). -/
inductive Assignment where
  | role (r : RoleIx)
  | extra
  deriving DecidableEq, Repr

/-- An attendee entry (R98). -/
structure Attendee where
  volunteer : VolunteerIx
  assignment : Assignment
  eta : Nat
  deriving DecidableEq, Repr

/-- An incident record (R95). The stage timer is its remaining count while running. -/
structure Incident where
  state : SlotState
  generation : BitVec 4
  tag : Word
  station : Nat
  priority : Nat
  openNumber : Word
  durations : Vector Nat 4
  testScale : Bool
  stage : Nat
  timer : Option Nat
  quotas : Vector Nat 6
  cap : Nat
  tallies : Vector Nat 6
  extras : Nat
  attendees : List Attendee
  offers : Nat
  declines : Nat
  turnedBack : Nat
  unreachable : Nat
  deriving DecidableEq, Repr

/-- A volunteer's engagement (R122). -/
inductive Engagement where
  | free
  | offered (s : Slot)
  | attending (s : Slot)
  deriving DecidableEq, Repr

/-- What the Callout Engine holds for one volunteer (R122, R124). -/
structure Standing where
  engagement : Engagement
  declined : Vector Bool 4
  deriving DecidableEq, Repr

structure Engine where
  incidents : Vector Incident 4
  /-- The incident age order, oldest first (R97). -/
  age : List Slot
  /-- The open counter, which wraps (R96). -/
  openCounter : Word
  /-- The stale counter (R135). -/
  stale : Nat
  standing : Vector Standing 240
  deriving DecidableEq, Repr

/-! ## The Notify Unit (chapter 8) -/

/-- One notify line: bit i belongs to source i (8.1). -/
structure NoteUnit where
  enables : Byte
  status : Byte
  /-- The re-pulse timer is running (R154). -/
  repulse : Bool
  deriving DecidableEq, Repr

structure Notify where
  a : NoteUnit
  b : NoteUnit
  deriving DecidableEq, Repr

/-! ## The Link Check Unit (chapter 9) -/

/-- The two tests (9.4). -/
inductive TestKind where
  | pattern
  | prbs
  deriving DecidableEq, Repr

/-- One 16-bit place of a pattern burst (R165). -/
inductive Place where
  | leadIn
  | word (w : Fin 16)
  deriving DecidableEq, Repr

/-- What the receiver of a listen is doing (R165, R167). -/
inductive Listen where
  /-- No lead-in received yet. -/
  | seeking
  /-- Aligned: the places still to come. -/
  | pattern (places : List Place)
  /-- The checker is running: the groups counted so far. -/
  | prbs (groups : Nat)
  deriving DecidableEq, Repr

/-- The test phase (9.4). The turnaround belongs to TEST-SENDING (log 18). -/
inductive TestPhase where
  | idle
  | retryWait
  /-- The listen-before-talk limit running, in units of 100 ms. -/
  | channelWait (limit : Nat)
  | sending (words : List Word)
  | turnaround
  /-- The listen window: its length in ticks, and the receiver. -/
  | listening (ticks : Nat) (l : Listen)
  deriving DecidableEq, Repr

structure LinkCheck where
  corrupt : Nat
  forced : Nat
  notReady : Nat
  silent : Nat
  overruns : Nat
  matched : Nat
  mismatched : Nat
  test : TestPhase
  /-- The test running. -/
  kind : Option TestKind
  /-- A test not-ready episode stands (R163). -/
  episode : Bool
  /-- The PRBS generator: bit 0 is the bit sent most recently (R166). -/
  generator : BitVec 7
  /-- The checker's register: bit 0 is the bit received most recently (R167). -/
  checker : BitVec 7
  deriving DecidableEq, Repr

/-! ## The whole -/

/-- The part with its pins and the static RAM behind it. -/
structure Part where
  pins : Pins
  bus : Bus
  /-- The static RAM: byte address and byte, strictly rising, no blank byte listed (log 2). -/
  mem : List Host.Cell
  settings : SettingsStore
  roster : Roster
  units : Vector UnitEntry 160
  scan : Scan
  engine : Engine
  notify : Notify
  check : LinkCheck
  deriving DecidableEq, Repr

/-- The machine: the part and the queue of commands that wait for it. -/
structure State where
  part : Part
  /-- Commands waiting, first in, first out (log 3). -/
  pending : List Instr
  deriving DecidableEq, Repr

/-- No command of the part stops it: every row of the table has an effect, or none, on State. -/
inductive Fault where
  deriving DecidableEq, Repr

/-- Why a command is not run. -/
inductive Refusal where
  /-- Raised by `exec`'s arm of a command that has no meaning yet; safe, since nothing is claimed of it. No arm raises
  it now. -/
  | notModelled (mnemonic : String)
  deriving DecidableEq, Repr

/-! ## After a device reset -/

def Staging.initial : Staging :=
  { slot := 0, generation := 0, tag := 0, station := 0, priority := 0, startStage := 0,
    quotas := Vector.replicate 6 0, cap := 0, volunteer := 0, eta := 0, action := 0 }

/-- DESIGN CHOICE (log 16): before the first cycle the part has driven nothing. -/
def BusView.initial : BusView :=
  { memSelected := false, memRead := false, memWrite := false, address := 0, answer := 0, waited := false }

/-- R17's table, with the strap values as sampled. -/
def Bus.initial (straps : Straps) : Bus :=
  { straps := straps, bytePair := none, readHigh := none, capture := none, staging := Staging.initial,
    result := { code := .none, action := 0, assigned := none }, requests := 0, view := BusView.initial }

/-- The defaults of R18. -/
def LinkSettings.initial : LinkSettings :=
  { rate := 1, hopCount := 0, hopDelay := 40, syncCount := 3, lbtLimit := 20, carrierMask := false,
    readyMask := false, holdEnable := false, holdGuard := 10, rising := 0xF2, falling := 0x00,
    selectsLow := 0x5432, selectsHigh := 0xBA98,
    syncWords := #v[0xB4E3, 0x2B5C, 0x96A7, 0x4D1E, 0xE2C9, 0x735A, 0x1FB8],
    patternWords := Vector.replicate 16 0, patternMarks := 0 }

/-- The defaults of R18. -/
def Settings.initial : Settings :=
  { link := LinkSettings.initial, scanRun := false, tests := { pattern := false, prbs := false },
    silentThreshold := 3, configured := 0, giving := 0, durations := Vector.replicate 32 0, testScale := false }

def ErrorRecord.clear : ErrorRecord := { kind := .none, offset := 0, count := 0 }

/-- R29. -/
def SettingsStore.initial : SettingsStore :=
  { staged := Settings.initial, active := Settings.initial, error := ErrorRecord.clear }

/-- The field values of a record not present (R37). -/
def Record.absent : Record :=
  { present := false, unit := 0, seat := .a, station := 0, tier := 0, aid := false, roles := 0, onCall := false }

def RosterEntry.initial : RosterEntry :=
  { staged0 := 0, staged1 := 0, staged2 := 0, shadow := Record.absent, pendingRecord := none, home := true }

def RejectRecord.clear : RejectRecord := { volunteer := none, reason := .none, phase := .commit, count := 0 }

/-- R46. -/
def Roster.initial : Roster :=
  { entries := Vector.replicate 240 RosterEntry.initial, reject := RejectRecord.clear }

def SeatState.initial : SeatState := { current := none, toggle := false, holder := none, lastEvent := none }

/-- R70. -/
def UnitEntry.initial : UnitEntry :=
  { stagedEnable := false, link := .disabled, misses := 0, flags := 0, watch := 0, changed := false, echo := false,
    seatA := SeatState.initial, seatB := SeatState.initial,
    inquiry := { state := .idle, code := 0, result1 := 0, result2 := 0 }, waiting := none }

/-- R93 and R56. -/
def Scan.initial : Scan :=
  { phase := .stopped, retryTimer := false, lbtTimer := none, guardTimer := none, cycle := 0, lastHead := 0,
    episode := false, urgent := [], hadSlot := Vector.replicate 160 false, hadUrgent := Vector.replicate 160 false,
    passPos := 0, changeSeen := false, changeFound := false, slotShown := none, radio := .quiet }

def Incident.initial : Incident :=
  { state := .free, generation := 0, tag := 0, station := 0, priority := 0, openNumber := 0,
    durations := Vector.replicate 4 0, testScale := false, stage := 0, timer := none,
    quotas := Vector.replicate 6 0, cap := 0, tallies := Vector.replicate 6 0, extras := 0, attendees := [],
    offers := 0, declines := 0, turnedBack := 0, unreachable := 0 }

def Standing.initial : Standing := { engagement := .free, declined := Vector.replicate 4 false }

/-- R121, R135. -/
def Engine.initial : Engine :=
  { incidents := Vector.replicate 4 Incident.initial, age := [], openCounter := 0, stale := 0,
    standing := Vector.replicate 240 Standing.initial }

def NoteUnit.initial : NoteUnit := { enables := 0, status := 0, repulse := false }

/-- R157. -/
def Notify.initial : Notify := { a := NoteUnit.initial, b := NoteUnit.initial }

/-- R169. -/
def LinkCheck.initial : LinkCheck :=
  { corrupt := 0, forced := 0, notReady := 0, silent := 0, overruns := 0, matched := 0, mismatched := 0,
    test := .idle, kind := none, episode := false, generator := 127, checker := 0 }

/-- Every block at its device reset value, with the pins, straps and memory given (R17). -/
def Part.initial (pins : Pins) (straps : Straps) (mem : List Host.Cell) : Part :=
  { pins := pins, bus := Bus.initial straps, mem := mem, settings := SettingsStore.initial,
    roster := Roster.initial, units := Vector.replicate 160 UnitEntry.initial, scan := Scan.initial,
    engine := Engine.initial, notify := Notify.initial, check := LinkCheck.initial }

/-- The machine right after a device reset: RESET-N has risen, nothing has been commanded. The straps, the levels of
RDY and CD and the memory are the model's choices (log 1, 2, 4). -/
def State.reset : State :=
  { part := Part.initial { resetN := true, rdy := Config.resetRdy, cd := Config.resetCd } Config.resetStraps [],
    pending := [] }

end Sys2Proof.Machine
end

