-- ==== Sys2Proof/Machine/Operands.lean ====
section
/-! DEFINITION. Fields of words, the layouts of chapter 11, check words, and times on the radio. -/

namespace Sys2Proof.Machine

/-! ## Fields of a word -/

/-- Bits `lo + width - 1` to `lo` of a word, as an unsigned number (chapter 11). -/
def bitsOf (w : Word) (lo width : Nat) : Nat := (w.toNat / 2 ^ lo) % 2 ^ width

/-- A word that carries `n` in bits `lo + width - 1` to `lo` and 0 elsewhere. -/
def field (lo width n : Nat) : Word := BitVec.ofNat 16 ((n % 2 ^ width) * 2 ^ lo)

/-- A word that carries a flag in bit `i`. -/
def flag (i : Nat) (b : Bool) : Word := field i 1 b.toNat

/-- Words joined field by field. -/
def join (fields : List Word) : Word := fields.foldl (· ||| ·) 0

/-- Bits 7-0 of a word. -/
def lowByte (w : Word) : Byte := w.setWidth 8

/-- Bits 15-8 of a word. -/
def highByte (w : Word) : Byte := (w >>> 8).setWidth 8

/-- The word of a low and a high byte (R1, R10). -/
def wordOf (lo hi : Byte) : Word := hi ++ lo

/-! ## Object numbers -/

/-- The unit of a unit number, where there is one. -/
def unitOf (n : Nat) : Option UnitIx := if h : 1 ≤ n ∧ n ≤ 160 then some ⟨n - 1, by omega⟩ else none

/-- The number of a unit. -/
def unitNumber (u : UnitIx) : Nat := u.val + 1

/-- The volunteer of a volunteer number, where there is one. -/
def volunteerOf (n : Nat) : Option VolunteerIx :=
  if h : 1 ≤ n ∧ n ≤ 240 then some ⟨n - 1, by omega⟩ else none

/-- The number of a volunteer. -/
def volunteerNumber (v : VolunteerIx) : Nat := v.val + 1

/-- The incident slot of a number, where there is one. -/
def slotOf (n : Nat) : Option Slot := if h : n < 4 then some ⟨n, h⟩ else none

/-! ## Words the controller writes -/

/-- The record a commit makes from staged words 0 to 2 and the commit word (R32, 11.1 Roster record). -/
def recordOf (w0 w1 w2 w3 : Word) : Record :=
  { present := w3.getLsbD 0
    unit := bitsOf w0 0 8
    seat := if w0.getLsbD 8 then .b else .a
    station := bitsOf w1 0 4
    tier := bitsOf w1 4 2
    aid := w1.getLsbD 8
    roles := w2.setWidth 6
    onCall := w3.getLsbD 1 }

/-- The watch mask of unit word 0 (11.1 Unit window). -/
def watchOf (w : Word) : BitVec 4 := w.setWidth 4

/-- The enable of unit word 0. -/
def enableOf (w : Word) : Bool := w.getLsbD 15

/-- The inquiry code of unit word 1. -/
def inquiryCodeOf (w : Word) : BitVec 4 := w.setWidth 4

/-- The two test enables of the word at offset 0x18. -/
def testEnablesOf (w : Word) : TestEnables := { pattern := w.getLsbD 0, prbs := w.getLsbD 1 }

/-- A write of staging word `k` keeps the bits of its fields (R12, R170). Word 6 is reserved. -/
def Staging.put (k : Nat) (w : Word) (s : Staging) : Staging :=
  match k with
  | 0 => { s with slot := w.setWidth 4, generation := (w >>> 4).setWidth 4 }
  | 1 => { s with tag := w }
  | 2 => { s with station := w.setWidth 4, priority := (w >>> 4).setWidth 4, startStage := (w >>> 8).setWidth 4 }
  | 3 => { s with quotas := #v[w.setWidth 4, (w >>> 4).setWidth 4, (w >>> 8).setWidth 4, (w >>> 12).setWidth 4,
                               s.quotas[4], s.quotas[5]] }
  | 4 => { s with quotas := #v[s.quotas[0], s.quotas[1], s.quotas[2], s.quotas[3], w.setWidth 4,
                               (w >>> 4).setWidth 4],
                  cap := (w >>> 8).setWidth 6 }
  | 5 => { s with volunteer := w.setWidth 8, eta := (w >>> 8).setWidth 4 }
  | 7 => { s with action := w }
  | _ => s

/-- A staging word as it reads back (R12, 11.2). -/
def Staging.word (s : Staging) (k : Nat) : Word :=
  match k with
  | 0 => join [field 0 4 s.slot.toNat, field 4 4 s.generation.toNat]
  | 1 => s.tag
  | 2 => join [field 0 4 s.station.toNat, field 4 4 s.priority.toNat, field 8 4 s.startStage.toNat]
  | 3 => join [field 0 4 s.quotas[0].toNat, field 4 4 s.quotas[1].toNat, field 8 4 s.quotas[2].toNat,
               field 12 4 s.quotas[3].toNat]
  | 4 => join [field 0 4 s.quotas[4].toNat, field 4 4 s.quotas[5].toNat, field 8 6 s.cap.toNat]
  | 5 => join [field 0 8 s.volunteer.toNat, field 8 4 s.eta.toNat]
  | 7 => s.action
  | _ => 0

/-- The staged quotas as numbers. -/
def Staging.quotaNumbers (s : Staging) : Vector Nat 6 := s.quotas.map BitVec.toNat

/-! ## Codes -/

/-- R14. -/
def ResultCode.code : ResultCode → Nat
  | .none => 0
  | .done => 1
  | .refusedFull => 2
  | .refusedInvalid => 3
  | .refusedStale => 4
  | .refusedState => 5
  | .refusedLinkStopped => 6
  | .refusedUnknown => 7

/-- R26. -/
def ErrorKind.code : ErrorKind → Nat
  | .none => 0
  | .outOfRange => 1
  | .testBoth => 2
  | .testWhileScanning => 3
  | .stopRefused => 4
  | .bytePair => 5

/-- R33. -/
def RejectReason.code : RejectReason → Nat
  | .none => 0
  | .unitRange => 1
  | .stationRange => 2
  | .tierRange => 3
  | .noRole => 4
  | .seatTaken => 5

/-- 11.2, word 0x202C. -/
def RejectPhase.code : RejectPhase → Nat
  | .commit => 0
  | .application => 1

/-- 11.2, word 0x2021. -/
def LinkPhase.code : LinkPhase → Nat
  | .stopped => 0
  | .retryWait _ => 1
  | .channelWait => 2
  | .cycling => 3
  | .holding => 4

/-- 11.2, word 0x2021: 0 outside RETRY-WAIT. -/
def LinkPhase.causeCode : LinkPhase → Nat
  | .retryWait .noUnits => 1
  | _ => 0

/-- 11.2, word 0x2021. -/
def TestPhase.code : TestPhase → Nat
  | .idle => 0
  | .retryWait => 1
  | .channelWait _ => 2
  | .sending _ => 3
  | .turnaround => 3
  | .listening _ _ => 4

/-- 11.2, incident block. -/
def SlotState.code : SlotState → Nat
  | .free => 0
  | .calling => 1
  | .complete => 2
  | .short => 3

/-- 11.2, incident block: 1 to 6 role, 7 EXTRA. -/
def Assignment.code : Assignment → Nat
  | .role r => r.val + 1
  | .extra => 7

/-- 11.2, unit live block. -/
def LinkState.code : LinkState → Nat
  | .disabled => 0
  | .unknown => 1
  | .present => 2
  | .silent => 3

/-- 11.2, unit live block. -/
def InquiryState.code : InquiryState → Nat
  | .idle => 0
  | .pending => 1
  | .sent => 2
  | .done => 3
  | .failed => 4

/-- 11.2, word 0x2024. -/
def SlotKind.code : SlotKind → Nat
  | .regular => 1
  | .urgent => 2

def Seat.code : Seat → Nat
  | .a => 0
  | .b => 1

/-- The last accepted code: 0 none accepted, 1 toggle 0, 2 toggle 1 (11.2, 11.3). -/
def lastEventCode : Option Bool → Nat
  | none => 0
  | some false => 1
  | some true => 2

/-! ## Frames on the radio (11.3) -/

def headLeadIn : Word := 0x7E81
def packetLeadIn : Word := 0x7E42
def replyLeadIn : Word := 0x7E24

/-- One bit of the check: generator x^16 + x^12 + x^5 + 1, most significant bit first (R87). -/
def checkBit (reg : Word) (b : Bool) : Word :=
  if reg.msb ^^ b then (reg <<< 1) ^^^ 0x1021 else reg <<< 1

/-- One word of the check, bit 15 first. -/
def checkStep (reg w : Word) : Word :=
  [15, 14, 13, 12, 11, 10, 9, 8, 7, 6, 5, 4, 3, 2, 1, 0].foldl (fun r i => checkBit r (w.getLsbD i)) reg

/-- The check word over words in their sending order (R87). -/
def checkWord (ws : List Word) : Word := ws.foldl checkStep 0xFFFF

/-- A frame: its lead-in, its words, and the check word over them (R76, R83, R171). -/
def frame (leadIn : Word) (ws : List Word) : List Word := leadIn :: (ws ++ [checkWord ws])

/-- The seat message word of a command packet (11.3, R171): for NONE and STAND-DOWN the ALERT fields are 0. -/
def SeatState.packetWord (s : SeatState) : Word :=
  match s.current with
  | none => flag 2 s.toggle
  | some ⟨.standDown, _⟩ => join [field 0 2 2, flag 2 s.toggle]
  | some ⟨.alert x, _⟩ =>
    join [field 0 2 1, flag 2 s.toggle, field 4 2 x.slot.val, field 6 4 x.generation.toNat, field 10 3 x.station,
          field 13 2 x.priority]

/-- The inquiry code a packet carries: the code while PENDING, 0 otherwise (R60). -/
def Inquiry.carriedCode (q : Inquiry) : Nat := if q.state = .pending then q.code.toNat else 0

/-- The words of the command packet to a unit (R60, R83, R171). -/
def UnitEntry.packet (e : UnitEntry) (u : UnitIx) : List Word :=
  frame packetLeadIn
    [ join [field 0 8 (unitNumber u), field 12 4 0x5],
      e.seatA.packetWord,
      e.seatB.packetWord,
      join [field 0 2 (lastEventCode e.seatA.lastEvent), field 2 2 (lastEventCode e.seatB.lastEvent),
            field 8 4 e.inquiry.carriedCode] ]

/-- The five words of a reply that its check word covers (R87). -/
def replyCovered (r : Reply) : List Word := [r.addressStatus, r.eventA, r.eventB, r.result1, r.result2]

/-- The check word of the reply is correct (R86). -/
def replyChecks (r : Reply) : Bool := checkWord (replyCovered r) = r.check

/-- The unit address of a reply (R172). -/
def replyAddress (r : Reply) : Nat := bitsOf r.addressStatus 0 8

/-- The four status flags of a reply. -/
def replyStatus (r : Reply) : BitVec 4 := (r.addressStatus >>> 8).setWidth 4

/-- The event word of a seat. -/
def replyEvent (r : Reply) : Seat → Word
  | .a => r.eventA
  | .b => r.eventB

/-- The unit's echo of a seat's message toggle (R59). -/
def replyEcho (r : Reply) (s : Seat) : Bool := (replyEvent r s).getLsbD 15

/-- The codes of a seat event (4.7). -/
inductive SeatEvent where
  | none
  | attend (eta : Nat) (s : Slot) (g : BitVec 4)
  | decline (s : Slot) (g : BitVec 4)
  | availOff
  | availOn
  deriving DecidableEq, Repr

/-- An ATTEND band outside 1 to 3 is taken as 3 (R137, R172). -/
def etaBand (n : Nat) : Nat := if n = 0 then 3 else n

/-- The reference slot of an event word. -/
def eventSlot (w : Word) : Slot := ⟨bitsOf w 6 2, Nat.mod_lt _ (by decide)⟩

/-- The reference generation of an event word. -/
def eventGeneration (w : Word) : BitVec 4 := (w >>> 8).setWidth 4

/-- The event of an event word; codes 5, 6 and 7 are taken as NONE (R172). -/
def seatEventOf (w : Word) : SeatEvent :=
  match bitsOf w 0 3 with
  | 1 => .attend (etaBand (bitsOf w 4 2)) (eventSlot w) (eventGeneration w)
  | 2 => .decline (eventSlot w) (eventGeneration w)
  | 3 => .availOff
  | 4 => .availOn
  | _ => .none

/-- The event toggle of an event word. -/
def eventToggle (w : Word) : Bool := w.getLsbD 3

/-! ## Times on the radio -/

/-- A tick is 1/6 of a microsecond, in which every bit time of R18's rates is whole (log 7). -/
def ticksPerMs : Nat := 6000

/-- The length of one bit at a rate code: 1200, 2400, 4800 or 9600 bit/s (R18). -/
def bitTicks (rate : Nat) : Nat := 5000 / 2 ^ rate

/-- A window for `bits` bits: their length, the hops' delay and a margin of 5 ms (R84, R165, R167). -/
def windowTicks (l : LinkSettings) (bits : Nat) : Nat :=
  bits * bitTicks l.rate + l.hopCount * l.hopDelay * ticksPerMs + 5 * ticksPerMs

/-! ## The PRBS sequence (R166, R167) -/

/-- The exclusive-or of the sixth and seventh bits of the register, the most recent bit being the first. -/
def prbsNext (reg : BitVec 7) : Bool := reg.getLsbD 5 ^^ reg.getLsbD 6

/-- A bit shifted into the register as its new first bit. -/
def prbsShift (reg : BitVec 7) (b : Bool) : BitVec 7 := (reg <<< 1) ||| (BitVec.ofBool b).setWidth 7

/-- `n` generator bits, most significant first, and the register after them. -/
def prbsBits : Nat → Word → BitVec 7 → Word × BitVec 7
  | 0, w, reg => (w, reg)
  | n + 1, w, reg =>
    let b := prbsNext reg
    prbsBits n ((w <<< 1) ||| (BitVec.ofBool b).setWidth 16) (prbsShift reg b)

/-- `n` words of 16 generator bits, and the register after them. -/
def prbsWords : Nat → BitVec 7 → List Word × BitVec 7
  | 0, reg => ([], reg)
  | n + 1, reg =>
    let (w, reg') := prbsBits 16 0 reg
    let (ws, reg'') := prbsWords n reg'
    (w :: ws, reg'')

/-- Judges received bits `i - 1` down to 0 of a word: those still to fill the register are not judged, each later one is
right if it equals the exclusive-or of the bits six and seven places before it (R167). -/
def checkerBits (w : Word) : Nat → (fill : Nat) → BitVec 7 → Bool → Bool × BitVec 7
  | 0, _, reg, ok => (ok, reg)
  | i + 1, fill, reg, ok =>
    let b := w.getLsbD i
    match fill with
    | 0 => checkerBits w i 0 (prbsShift reg b) (ok && (b == prbsNext reg))
    | f + 1 => checkerBits w i f (prbsShift reg b) ok

/-- One group of 16 received bits: the first 7 of the first group fill the register. -/
def checkerGroup (groups : Nat) (w : Word) (reg : BitVec 7) : Bool × BitVec 7 :=
  checkerBits w 16 (if groups = 0 then 7 else 0) reg true

/-! ## The pattern burst (R164, R165) -/

/-- The places of one repetition: a lead-in before each marked word. -/
def patternRepetition (marks : Word) : List Place :=
  (List.finRange 16).flatMap fun w => if marks.getLsbD w.val then [.leadIn, .word w] else [.word w]

/-- The places of a whole burst, in the order sent: eight repetitions. -/
def patternPlaces (marks : Word) : List Place := (List.replicate 8 (patternRepetition marks)).flatten

/-- The words of a pattern burst. -/
def patternBurst (l : LinkSettings) : List Word :=
  (patternPlaces l.patternMarks).map fun
    | .leadIn => headLeadIn
    | .word w => l.patternWords[w]

/-- The places that follow the aligning lead-in: it is taken as the first the burst sent (R165). -/
def afterFirstLeadIn : List Place → List Place
  | [] => []
  | .leadIn :: rest => rest
  | .word _ :: rest => afterFirstLeadIn rest

/-- The pattern words among places. -/
def judgedPlaces (ps : List Place) : Nat := ps.countP fun
  | .leadIn => false
  | .word _ => true

/-- The words a burst judges: 128 - f, or 128 when no mark is set (R165). -/
def patternJudged (marks : Word) : Nat :=
  if marks = 0 then 128 else judgedPlaces (afterFirstLeadIn (patternPlaces marks))

end Sys2Proof.Machine
end

