-- ==== Sys2Proof/Machine/Ops.lean ====
section
/-! DEFINITION. The named operations over the part's blocks, its tables and the static RAM behind it. -/

namespace Sys2Proof.Machine

/-! ## Blocks and tables -/

/-- One entry of a table changed by `f`. -/
def update {α : Type} {n : Nat} (t : Vector α n) (i : Fin n) (f : α → α) : Vector α n := t.set i (f t[i])

def Part.onPins (p : Part) (f : Pins → Pins) : Part := { p with pins := f p.pins }
def Part.onBus (p : Part) (f : Bus → Bus) : Part := { p with bus := f p.bus }
def Part.onMem (p : Part) (f : List Host.Cell → List Host.Cell) : Part := { p with mem := f p.mem }
def Part.onSettings (p : Part) (f : SettingsStore → SettingsStore) : Part := { p with settings := f p.settings }
def Part.onRoster (p : Part) (f : Roster → Roster) : Part := { p with roster := f p.roster }
def Part.onUnits (p : Part) (f : Vector UnitEntry 160 → Vector UnitEntry 160) : Part := { p with units := f p.units }
def Part.onScan (p : Part) (f : Scan → Scan) : Part := { p with scan := f p.scan }
def Part.onEngine (p : Part) (f : Engine → Engine) : Part := { p with engine := f p.engine }
def Part.onNotify (p : Part) (f : Notify → Notify) : Part := { p with notify := f p.notify }
def Part.onCheck (p : Part) (f : LinkCheck → LinkCheck) : Part := { p with check := f p.check }

/-- The machine after the part's own work: the queue is as it was. -/
def State.onPart (s : State) (f : Part → Part) : State := { s with part := f s.part }

/-- A command whose step changes the part and goes on. -/
def State.run (s : State) (f : Part → Part) : Host.Outcome State Fault Refusal := .next (s.onPart f)

/-- One roster entry changed. -/
def Part.onRosterEntry (p : Part) (v : VolunteerIx) (f : RosterEntry → RosterEntry) : Part :=
  p.onRoster fun r => { r with entries := update r.entries v f }

/-- One volunteer's standing changed. -/
def Part.onStanding (p : Part) (v : VolunteerIx) (f : Standing → Standing) : Part :=
  p.onEngine fun e => { e with standing := update e.standing v f }

/-- One incident record changed. -/
def Part.onIncident (p : Part) (s : Slot) (f : Incident → Incident) : Part :=
  p.onEngine fun e => { e with incidents := update e.incidents s f }

/-- The shadow record of a volunteer (R37). -/
def Part.shadow (p : Part) (v : VolunteerIx) : Record := p.roster.entries[v].shadow

/-- The engagement of a volunteer (R122). -/
def Part.engagement (p : Part) (v : VolunteerIx) : Engagement := p.engine.standing[v].engagement

/-- The incident record of a slot (R95). -/
def Part.incident (p : Part) (s : Slot) : Incident := p.engine.incidents[s]

/-- RDY and CD at the levels a command carries (R71; log 4). -/
def Part.withLines (p : Part) (ln : Lines) : Part := p.onPins fun x => { x with rdy := ln.rdy, cd := ln.cd }

/-! ## The static RAM (R2, R4; log 2) -/

namespace Memory

/-- The byte at an address; an address not listed reads as `Config.blankByte`. -/
def read : List Host.Cell → Nat → Byte
  | [], _ => Config.blankByte
  | (k, x) :: rest, a => if k = a then x else read rest a

/-- The byte `x` at an address, in canonical form: sorted, and no blank byte listed. -/
def write : List Host.Cell → Nat → Byte → List Host.Cell
  | [], a, x => if x = Config.blankByte then [] else [(a, x)]
  | (k, y) :: rest, a, x =>
    if a < k then (if x = Config.blankByte then (k, y) :: rest else (a, x) :: (k, y) :: rest)
    else if a = k then (if x = Config.blankByte then rest else (a, x) :: rest)
    else (k, y) :: write rest a x

/-- The canonical form: addresses strictly rising, and no blank byte listed. -/
def wf : List Host.Cell → Bool
  | [] => true
  | (k, x) :: rest => x ≠ Config.blankByte && rest.all (fun c => decide (k < c.1)) && wf rest

end Memory

/-- The effective base: BASE modulo the whole regions that the used address lines reach (R2). -/
def effectiveBase (s : Straps) : Nat :=
  if s.addr20 then s.base.toNat else if s.data8 then s.base.toNat % 2 else s.base.toNat % 4

/-- SA with the unused lines dropped (R1). -/
def usedAddress (s : Straps) (sa : BitVec 20) : Nat := if s.addr20 then sa.toNat else sa.toNat % 65536

/-- The word address of a cycle (R1). -/
def wordAddress (s : Straps) (sa : BitVec 20) : Nat :=
  if s.data8 then usedAddress s sa / 2 else usedAddress s sa

/-- The region offset of a cycle, where its word address lies in the region (R2). -/
def regionOffset (s : Straps) (sa : BitVec 20) : Option Nat :=
  let w := wordAddress s sa
  let base := effectiveBase s * 16384
  if base ≤ w ∧ w < base + 16384 then some (w - base) else none

/-- The word address of a region offset (R2). -/
def offsetAddress (s : Straps) (off : Nat) : Nat := effectiveBase s * 16384 + off

/-- The windows of the region (R3). -/
inductive Window where
  | setup
  | roster
  | unit
  | board
  | elsewhere
  deriving DecidableEq, Repr

/-- The window of a region offset (R3). -/
def windowOf (off : Nat) : Window :=
  if off < 0x0100 then .setup
  else if 0x0800 ≤ off ∧ off < 0x0BC0 then .roster
  else if 0x1000 ≤ off ∧ off < 0x1140 then .unit
  else if 0x2000 ≤ off ∧ off < 0x3000 then .board
  else .elsewhere

/-- A write to the window is forwarded to memory and observed (R3). -/
def Window.forwarded : Window → Bool
  | .setup => true
  | .roster => true
  | .unit => true
  | .board => false
  | .elsewhere => false

/-- The memory side of a cycle that reaches the static RAM (R4). -/
def Part.viewMemory (p : Part) (address : Nat) (write : Bool) (answer : Word) : Part :=
  p.onBus fun b => { b with view := { memSelected := true, memRead := !write, memWrite := write,
                                      address := BitVec.ofNat 20 address, answer := answer, waited := false } }

/-- A board cycle: the static RAM is not selected (R6, R7). The spec does not say what MA shows while MCS-N is inactive:
the view's address 0 is the model's choice (DESIGN CHOICE, log 16). -/
def Part.viewBoard (p : Part) (waited : Bool) (answer : Word) : Part :=
  p.onBus fun b => { b with view := { memSelected := false, memRead := false, memWrite := false,
                                      address := 0, answer := answer, waited := waited } }

/-- A byte written to the static RAM at a byte address. -/
def Part.ramByteWrite (p : Part) (a : Nat) (x : Byte) : Part :=
  (p.onMem fun m => Memory.write m a x).viewMemory a true 0

/-- A word written to the static RAM at a word address: low byte at the lower byte address (00, Byte order; log 2). -/
def Part.ramWordWrite (p : Part) (a : Nat) (w : Word) : Part :=
  (p.onMem fun m => Memory.write (Memory.write m (2 * a) (lowByte w)) (2 * a + 1) (highByte w)).viewMemory a true 0

/-- The word of the static RAM at a word address. -/
def ramWord (m : List Host.Cell) (a : Nat) : Word := wordOf (Memory.read m (2 * a)) (Memory.read m (2 * a + 1))

/-- A byte read from the static RAM at a byte address. -/
def Part.ramByteRead (p : Part) (a : Nat) : Part :=
  p.viewMemory a false ((Memory.read p.mem a).setWidth 16)

/-- A word read from the static RAM at a word address. -/
def Part.ramWordRead (p : Part) (a : Nat) : Part := p.viewMemory a false (ramWord p.mem a)

/-- A plain cycle: it reaches the static RAM unchanged (R4). -/
def Part.plainCycle (p : Part) (c : BusCycle) : Part :=
  let a := usedAddress p.bus.straps c.sa
  if p.bus.straps.data8 then
    if c.write then p.ramByteWrite a (lowByte c.data) else p.ramByteRead a
  else
    if c.write then p.ramWordWrite a c.data else p.ramWordRead a

/-- The class of a cycle while RESET-N is high (R3). -/
inductive CycleClass where
  | plain
  | forwarded (off : Nat)
  | boardWrite (off : Nat)
  | boardRead (off : Nat)
  deriving DecidableEq, Repr

/-- R3: by region offset and direction. -/
def classify (s : Straps) (c : BusCycle) : CycleClass :=
  match regionOffset s c.sa with
  | none => .plain
  | some off =>
    match windowOf off, c.write with
    | .board, true => .boardWrite off
    | .board, false => .boardRead off
    | .elsewhere, _ => .plain
    | _, true => .forwarded off
    | _, false => .plain

end Sys2Proof.Machine
end

