-- ==== Sys2Proof/Machine/Flags.lean ====
section
/-! DEFINITION. Counters, notify latches and lines, the error and reject records (chapters 2, 3, 8, 9). -/

namespace Sys2Proof.Machine

/-- A counter that stays at its maximum (00, Counters). -/
def countUp (limit n : Nat) : Nat := if n < limit then n + 1 else n

/-! ## Notify sources (8.1) -/

/-- The sources of both lines. -/
inductive Source where
  | attendTaken
  | declineTaken
  | crewComplete
  | crewShort
  | stageAdvance
  | callingAgain
  | staleEvent
  | requestTaken
  | unitSilent
  | unitReturn
  | changeNow
  | changeCycle
  | holdOverrun
  | cycleEnd
  | radioTrouble
  | settingError
  deriving DecidableEq, Repr

/-- The line of a source (8.1). -/
def Source.line : Source → NoteLine
  | .attendTaken | .declineTaken | .crewComplete | .crewShort | .stageAdvance | .callingAgain | .staleEvent
  | .requestTaken => .a
  | .unitSilent | .unitReturn | .changeNow | .changeCycle | .holdOverrun | .cycleEnd | .radioTrouble
  | .settingError => .b

/-- The bit of a source in its line's words (8.1). -/
def Source.bit : Source → Fin 8
  | .attendTaken | .unitSilent => 0
  | .declineTaken | .unitReturn => 1
  | .crewComplete | .changeNow => 2
  | .crewShort | .changeCycle => 3
  | .stageAdvance | .holdOverrun => 4
  | .callingAgain | .cycleEnd => 5
  | .staleEvent | .radioTrouble => 6
  | .requestTaken | .settingError => 7

/-- The byte with one bit set. -/
def bitMask (i : Fin 8) : Byte := 1#8 <<< i.val

/-- An event of bit `i`: it reaches its latch if the enable is set at that moment (R150). -/
def NoteUnit.latch (n : NoteUnit) (i : Fin 8) : NoteUnit :=
  { n with status := n.status ||| (n.enables &&& bitMask i) }

/-- One line of the Notify Unit. -/
def Notify.line (n : Notify) : NoteLine → NoteUnit
  | .a => n.a
  | .b => n.b

/-- One line changed; the other is left as it was (R152). -/
def Notify.onLine (n : Notify) (l : NoteLine) (f : NoteUnit → NoteUnit) : Notify :=
  match l with
  | .a => { n with a := f n.a }
  | .b => { n with b := f n.b }

/-- A block reports an event of a source (R150). -/
def Part.report (p : Part) (x : Source) : Part := p.onNotify fun n => n.onLine x.line fun u => u.latch x.bit

/-- The event of a source is enabled. -/
def Part.enabledSource (p : Part) (x : Source) : Bool := (p.notify.line x.line).enables.getLsbD x.bit.val

/-- A clear of a line (R153, R154): bits written as 1 are cleared; a clear that cleared a latch and left one set begins a
re-pulse interval, or begins it again; a clear that cleared every latch leaves a running interval to its expiry. -/
def NoteUnit.clear (n : NoteUnit) (w : Byte) : NoteUnit :=
  let left := n.status &&& ~~~w
  if n.status &&& w = 0 then n
  else if left = 0 then { n with status := left }
  else { n with status := left, repulse := true }

/-- An enable write (R151). -/
def NoteUnit.enable (n : NoteUnit) (w : Byte) : NoteUnit := { n with enables := w }

/-- R152: active exactly when a latch is set, but inactive during a re-pulse interval. -/
def NoteUnit.active (n : NoteUnit) : Bool := n.status ≠ 0 && !n.repulse

/-- The notify line is driven low (R152); both are inactive while RESET-N is low (R16). -/
def Part.noteActive (p : Part) (l : NoteLine) : Bool := p.pins.resetN && (p.notify.line l).active

/-- PTT is keyed while a head, a packet or a test burst is being sent (R71, R164, R166), and released while RESET-N is
low (R16). -/
def Part.pttKeyed (p : Part) : Bool :=
  p.pins.resetN &&
    ((match p.scan.radio with
      | .head _ _ _ => true
      | .packet _ => true
      | _ => false) ||
     (match p.check.test with
      | .sending _ => true
      | _ => false))

/-- The words being sent on TXD (R71; log 10). -/
def Part.sent (p : Part) : List Word :=
  match p.scan.radio, p.check.test with
  | .head ws _ _, _ => ws
  | .packet ws, _ => ws
  | _, .sending ws => ws
  | _, _ => []

/-! ## Error and reject records -/

/-- A setting error recorded by the store or reported to it (R26). -/
def Part.recordError (p : Part) (k : ErrorKind) (off : Nat) : Part :=
  (p.onSettings fun s => { s with error := { kind := k, offset := off, count := countUp 255 s.error.count } }).report
    .settingError

/-- A roster reject (R34). -/
def Part.recordReject (p : Part) (v : VolunteerIx) (why : RejectReason) (phase : RejectPhase) : Part :=
  (p.onRoster fun r => { r with reject := { volunteer := some v, reason := why, phase := phase,
                                            count := countUp 255 r.reject.count } }).report .settingError

/-- A stale event (R134, R135). -/
def Part.countStale (p : Part) : Part :=
  (p.onEngine fun e => { e with stale := countUp 65535 e.stale }).report .staleEvent

/-! ## Link counters (R158) -/

/-- A forced transmit (R74, R163). -/
def Part.countForced (p : Part) : Part :=
  (p.onCheck fun c => { c with forced := countUp 255 c.forced }).report .radioTrouble

/-- The start of a not-ready episode, of the scan or of a test (R73, R163). -/
def Part.countNotReady (p : Part) : Part :=
  (p.onCheck fun c => { c with notReady := countUp 255 c.notReady }).report .radioTrouble

/-- A slot ended as CORRUPT (R86). -/
def Part.countCorrupt (p : Part) : Part := p.onCheck fun c => { c with corrupt := countUp 65535 c.corrupt }

/-- A unit became SILENT (R54). -/
def Part.countSilent (p : Part) : Part :=
  (p.onCheck fun c => { c with silent := countUp 255 c.silent }).report .unitSilent

/-- A hold guard ran out (R90). -/
def Part.countOverrun (p : Part) : Part :=
  (p.onCheck fun c => { c with overruns := countUp 255 c.overruns }).report .holdOverrun

/-- `n` advances of a counter that stays at its maximum. -/
def countUpBy (limit n k : Nat) : Nat := if limit ≤ k then k else min limit (k + n)

/-- Test words or groups judged correct (R165, R167). -/
def Part.countMatched (p : Part) : Part := p.onCheck fun c => { c with matched := countUp 65535 c.matched }

/-- `n` test words or groups judged wrong or not received (R165, R167). -/
def Part.countMismatched (p : Part) (n : Nat) : Part :=
  p.onCheck fun c => { c with mismatched := countUpBy 65535 n c.mismatched }

end Sys2Proof.Machine
end

