-- ==== Sys2Proof/Machine/Units.lean ====
section
/-! DEFINITION. The Unit Table: seat messages, the urgent list's condition, slot outcomes, inquiries (chapter 4). -/

namespace Sys2Proof.Machine

/-- The active enable: an enabled unit is UNKNOWN, PRESENT or SILENT (4.2; log 17). -/
def UnitEntry.enabled (e : UnitEntry) : Bool := e.link ≠ .disabled

/-- The seat holds a message UNCONFIRMED (4.5). -/
def SeatState.unconfirmed (s : SeatState) : Bool :=
  match s.current with
  | some c => !c.confirmed
  | none => false

/-- The condition of the urgent list (R60): enabled, and a seat UNCONFIRMED or the echo flag set. -/
def UnitEntry.urgent (e : UnitEntry) : Bool :=
  e.enabled && (e.seatA.unconfirmed || e.seatB.unconfirmed || e.echo)

/-- The urgent list after a change of a unit: a join appends it, a leave removes it, else it keeps its place (R81). -/
def judgeUrgent (list : List UnitIx) (u : UnitIx) (urgent : Bool) : List UnitIx :=
  if urgent then (if u ∈ list then list else list ++ [u]) else list.filter fun x => x ≠ u

/-- One unit entry changed, and its place on the urgent list judged (R60, R81). Every change of a unit goes through
this. -/
def Part.onUnit (p : Part) (u : UnitIx) (f : UnitEntry → UnitEntry) : Part :=
  (p.onUnits fun t => update t u f).onScan fun s =>
    { s with urgent := judgeUrgent s.urgent u (f p.units[u]).urgent }

/-- One seat of a unit changed. -/
def UnitEntry.onSeat (e : UnitEntry) (s : Seat) (f : SeatState → SeatState) : UnitEntry :=
  match s with
  | .a => { e with seatA := f e.seatA }
  | .b => { e with seatB := f e.seatB }

/-- One seat of a unit. -/
def UnitEntry.seat (e : UnitEntry) : Seat → SeatState
  | .a => e.seatA
  | .b => e.seatB

/-! ## Messages -/

/-- R57: the message replaces the current one, with a fresh toggle, UNCONFIRMED. -/
def SeatState.install (s : SeatState) (m : Message) : SeatState :=
  { s with current := some { message := m, confirmed := false }, toggle := !s.toggle }

/-- R58: the message waits in the next-message holder, replacing any there. -/
def SeatState.hold (s : SeatState) (m : Message) : SeatState := { s with holder := some m }

/-- R58: at the slot's end a held message is installed and the holder becomes empty. -/
def SeatState.installHeld (s : SeatState) : SeatState :=
  match s.holder with
  | some m => { s with holder := none }.install m
  | none => s

/-- R59: the unit's echo judged against the seat's toggle. -/
def SeatState.confirm (s : SeatState) (echo : Bool) : SeatState :=
  match s.current with
  | some ⟨.alert x, _⟩ =>
    if echo = s.toggle then { s with current := some { message := .alert x, confirmed := true } } else s
  | some ⟨.standDown, false⟩ => if echo = s.toggle then { s with current := none } else s
  | some ⟨.standDown, true⟩ => s
  | none => s

/-- A slot of the unit is in flight: from the start of its packet to the slot's end (R57). -/
def Part.inFlight (p : Part) (u : UnitIx) : Bool :=
  match p.scan.radio with
  | .quiet => false
  | .head _ _ _ => false
  | .packet _ | .turnaround | .window _ _ => p.scan.slotShown.map (·.1) = some u

/-- A hold is ended (R90): its guard timer is stopped. The attempt to start the next cycle follows once the event's own
work is done (`Part.settle`; log 9). -/
def Part.endHold (p : Part) : Part :=
  if p.scan.phase = .holding then p.onScan fun s => { s with guardTimer := none } else p

/-- The Callout Engine sets a message on a seat (R57, R58): dropped for a DISABLED unit (R51); into the holder while the
unit's slot is in flight; installed otherwise. A message set for an enabled unit ends a hold (R90). -/
def Part.setMessage (p : Part) (u : UnitIx) (s : Seat) (m : Message) : Part :=
  if p.units[u].enabled then
    (if p.inFlight u then p.onUnit u fun e => e.onSeat s fun x => x.hold m
     else p.onUnit u fun e => e.onSeat s fun x => x.install m).endHold
  else p

/-- A message for a volunteer goes to the seat the shadow record names (R36, R131). -/
def Part.tell (p : Part) (v : VolunteerIx) (m : Message) : Part :=
  match unitOf (p.shadow v).unit with
  | some u => p.setMessage u (p.shadow v).seat m
  | none => p

/-! ## Packets -/

/-- Beginning the packet clears the echo flag and moves a PENDING inquiry to SENT (R60, R65, R83). -/
def UnitEntry.beginPacket (e : UnitEntry) : UnitEntry :=
  { e with echo := false,
           inquiry := if e.inquiry.state = .pending then { e.inquiry with state := .sent } else e.inquiry }

/-! ## Slot outcomes, steps 1 to 5 of R52 -/

/-- A good reply, step 1 (R53). -/
def UnitEntry.heardFrom (e : UnitEntry) : UnitEntry :=
  { e with misses := 0, link := if e.link = .disabled then .disabled else .present }

/-- A good reply, step 2 (R55): a watched flag differs. -/
def UnitEntry.watchedChange (e : UnitEntry) (flags : BitVec 4) : Bool := (e.flags ^^^ flags) &&& e.watch ≠ 0

/-- A good reply, step 2 (R55). -/
def UnitEntry.takeFlags (e : UnitEntry) (flags : BitVec 4) : UnitEntry :=
  { e with changed := e.watchedChange flags, flags := flags }

/-- An inquiry that is PENDING or SENT fails when its unit becomes SILENT or DISABLED (R66). -/
def Inquiry.fail (q : Inquiry) : Inquiry :=
  if q.state = .pending ∨ q.state = .sent then { q with state := .failed } else q

/-- The miss that makes the unit SILENT (R54). -/
def UnitEntry.goesSilent (e : UnitEntry) (threshold : Nat) : Bool :=
  (e.link = .unknown || e.link = .present) && threshold ≤ countUp 15 e.misses

/-- A miss, step 1 (R54). -/
def UnitEntry.missed (e : UnitEntry) (threshold : Nat) : UnitEntry :=
  if e.goesSilent threshold then
    { e with misses := countUp 15 e.misses, link := .silent, inquiry := e.inquiry.fail }
  else { e with misses := countUp 15 e.misses }

/-- Step 5 of R52 on a good reply (R65). -/
def Inquiry.answered (q : Inquiry) (r1 r2 : Word) : Inquiry :=
  if q.state = .sent then { q with state := .done, result1 := r1, result2 := r2 } else q

/-- Step 5 of R52 on a miss (R65). -/
def Inquiry.unanswered (q : Inquiry) : Inquiry := if q.state = .sent then { q with state := .pending } else q

/-- A new inquiry (R64). -/
def Inquiry.ask (code : BitVec 4) : Inquiry := { state := .pending, code := code, result1 := 0, result2 := 0 }

/-- Step 5 of R52: a waiting code is installed after the inquiry in flight is judged (R66). -/
def UnitEntry.installWaiting (e : UnitEntry) : UnitEntry :=
  match e.waiting with
  | some c => { e with inquiry := Inquiry.ask c, waiting := none }
  | none => e

/-! ## Words of the UNIT window -/

/-- A new inquiry of code 1 to 5 (R64). -/
def UnitEntry.newInquiry (e : UnitEntry) (code : BitVec 4) : UnitEntry :=
  if e.enabled then
    if e.inquiry.state = .sent then { e with waiting := some code } else { e with inquiry := Inquiry.ask code }
  else { e with inquiry := { state := .failed, code := code, result1 := 0, result2 := 0 } }

/-- Unit word 1 (R64): 0 does nothing, 1 to 5 ask, 6 to 15 are refused as OUT-OF-RANGE. -/
def Part.takeInquiryWord (p : Part) (u : UnitIx) (w : Word) : Part :=
  let code := inquiryCodeOf w
  if code = 0 then p
  else if code.toNat ≤ 5 then p.onUnit u fun e => e.newInquiry code
  else p.recordError .outOfRange (0x1001 + 2 * u.val)

/-! ## Enables -/

/-- R50: the unit is set on becoming enabled. -/
def UnitEntry.turnOn (e : UnitEntry) : UnitEntry :=
  { e with link := .unknown, misses := 0, flags := 0, changed := false, echo := false,
           seatA := { e.seatA with lastEvent := none }, seatB := { e.seatB with lastEvent := none } }

/-- R51, step 2, for one seat. -/
def SeatState.empty (s : SeatState) : SeatState := { s with current := none, holder := none }

/-- R51, steps 1 to 3 and 5: the unit is set on becoming disabled. -/
def UnitEntry.turnOff (e : UnitEntry) : UnitEntry :=
  { e with link := .disabled, seatA := e.seatA.empty, seatB := e.seatB.empty, echo := false, changed := false,
           inquiry := e.inquiry.fail, waiting := none }

/-! ## Who is at a seat -/

/-- The volunteer whose present shadow record names the unit and seat (R36). -/
def Part.seatHolder (p : Part) (u : UnitIx) (s : Seat) : Option VolunteerIx :=
  (List.finRange 240).find? fun v =>
    (p.shadow v).present && (p.shadow v).unit == unitNumber u && (p.shadow v).seat == s

end Sys2Proof.Machine
end

