-- ==== Sys2Proof/Machine/Roster.lean ====
section
/-! DEFINITION. The Roster Table: commits, checks, application, pending records, callability (chapter 3). -/

namespace Sys2Proof.Machine

/-- The SEAT-TAKEN condition (R33): another volunteer's present shadow record names the same unit and seat. -/
def Part.seatTaken (p : Part) (v : VolunteerIx) (r : Record) : Bool :=
  (List.finRange 240).any fun w =>
    w ≠ v && (p.shadow w).present && (p.shadow w).unit == r.unit && (p.shadow w).seat == r.seat

/-- The commit checks in their order (R33); none when the record passes. -/
def Part.commitCheck (p : Part) (v : VolunteerIx) (r : Record) : Option RejectReason :=
  if !r.present then none
  else if r.unit = 0 ∨ 160 < r.unit then some .unitRange
  else if 7 < r.station then some .stationRange
  else if r.tier = 0 then some .tierRange
  else if r.roles = 0 then some .noRole
  else if p.seatTaken v r then some .seatTaken
  else none

/-- The shadow a record gives (R37): a record not present carries no other field. -/
def Record.toShadow (r : Record) : Record := if r.present then r else Record.absent

/-- The seat identity of a shadow record (R42): its unit and seat when present. -/
def Record.identity (r : Record) : Option (Nat × Seat) := if r.present then some (r.unit, r.seat) else none

/-- A record applied to a volunteer's entry (R37): the shadow is replaced, and home availability becomes ON if the seat
identity changed. -/
def RosterEntry.apply (e : RosterEntry) (r : Record) : RosterEntry :=
  { e with shadow := r.toShadow, home := e.home || r.toShadow.identity ≠ e.shadow.identity }

/-- A record applied (R37). Its report to the Callout Engine is a cause of the event's offer round (R126). -/
def Part.applyRecord (p : Part) (v : VolunteerIx) (r : Record) : Part := p.onRosterEntry v fun e => e.apply r

/-- The Roster Table acts on the pending slot of a volunteer made FREE (R40). -/
def Part.actOnPending (p : Part) (v : VolunteerIx) : Part :=
  match p.roster.entries[v].pendingRecord with
  | none => p
  | some r =>
    let emptied := p.onRosterEntry v fun e => { e with pendingRecord := none }
    if r.present && p.seatTaken v r then emptied.recordReject v .seatTaken .application
    else emptied.applyRecord v r

/-- The pending slots of the volunteers made FREE by one event, in the order given: ascending volunteer number (R40). -/
def Part.actOnPendings (p : Part) (freed : List VolunteerIx) : Part := freed.foldl Part.actOnPending p

/-- Staged word `k` replaced (R31). -/
def RosterEntry.stage (e : RosterEntry) (k : Nat) (w : Word) : RosterEntry :=
  match k with
  | 0 => { e with staged0 := w }
  | 1 => { e with staged1 := w }
  | 2 => { e with staged2 := w }
  | _ => e

/-- The record a commit word makes with the staged words (R32). -/
def RosterEntry.committed (e : RosterEntry) (w3 : Word) : Record := recordOf e.staged0 e.staged1 e.staged2 w3

/-- A volunteer is callable (R44). -/
def Part.callable (p : Part) (v : VolunteerIx) : Bool :=
  (p.shadow v).present && (p.shadow v).onCall && p.roster.entries[v].home &&
    (match unitOf (p.shadow v).unit with
     | some u => p.units[u].enabled
     | none => false)

/-- The volunteer's unit is SILENT (R130). -/
def Part.outOfReach (p : Part) (v : VolunteerIx) : Bool :=
  match unitOf (p.shadow v).unit with
  | some u => p.units[u].link = .silent
  | none => false

end Sys2Proof.Machine
end

