-- ==== Sys2Proof/Machine/Incidents.lean ====
section
/-! DEFINITION. The incident record: crew, stages and states (chapter 6). -/

namespace Sys2Proof.Machine

/-- The sum of a number over the six roles. -/
def sumRoles (f : RoleIx → Nat) : Nat := ((List.finRange 6).map f).sum

/-- The unmet need of a role (R95): quota less tally where the tally is below the quota, else 0. -/
def Incident.unmet (i : Incident) (r : RoleIx) : Nat := i.quotas[r] - i.tallies[r]

/-- The total unmet need (R95). -/
def Incident.totalUnmet (i : Incident) : Nat := sumRoles i.unmet

/-- At least one role of a role set has an unmet need (R127, R133). -/
def Incident.needs (i : Incident) (roles : BitVec 6) : Bool :=
  (List.finRange 6).any fun r => roles.getLsbD r.val && 0 < i.unmet r

/-- Every tally is at or above its quota (R106). -/
def Incident.crewed (i : Incident) : Bool := (List.finRange 6).all fun r => i.quotas[r] ≤ i.tallies[r]

/-- The slot holds an incident that offer rounds serve (R99, R127). -/
def Incident.served (i : Incident) : Bool := i.state = .calling || i.state = .short

/-- The duration of a stage, 1 to 4 (R101). -/
def stageDuration (d : Vector Nat 4) (stage : Nat) : Nat :=
  match stage with
  | 0 => 0
  | k + 1 => d[k]?.getD 0

/-- The first used stage at or after a stage (R101). -/
def usedStageFrom (d : Vector Nat 4) (stage : Nat) : Option Nat :=
  [1, 2, 3, 4].find? fun k => stage ≤ k && stageDuration d k ≠ 0

/-- The stage timer started with the full duration of the current stage (R103). -/
def Incident.startTimer (i : Incident) : Incident := { i with timer := some (stageDuration i.durations i.stage) }

/-- The incident would become COMPLETE (R106). -/
def Incident.completes (i : Incident) : Bool := i.served && i.crewed

/-- R106: every tally at or above its quota makes a CALLING or SHORT incident COMPLETE and stops its timer. -/
def Incident.judgeComplete (i : Incident) : Incident :=
  if i.completes then { i with state := .complete, timer := none } else i

/-- The incident would return to CALLING (R107). -/
def Incident.reopens (i : Incident) : Bool := i.state = .complete && !i.crewed

/-- R107: a COMPLETE incident with a tally below its quota becomes CALLING with a full timer of its current stage. -/
def Incident.judgeReturn (i : Incident) : Incident :=
  if i.reopens then { i with state := .calling }.startTimer else i

/-- R104: the next used stage with its timer, or SHORT. -/
def Incident.advance (i : Incident) : Incident :=
  match usedStageFrom i.durations (i.stage + 1) with
  | some k => { i with stage := k }.startTimer
  | none => { i with state := .short, timer := none }

/-- The assignment of a volunteer with a role set (R138): the role of largest unmet need among the volunteer's, the lowest
number on a tie; EXTRA within the cap; none for a turn-back. -/
def Incident.neededRole (i : Incident) (roles : BitVec 6) : Option RoleIx :=
  (List.finRange 6).foldl (fun best r =>
    if roles.getLsbD r.val && 0 < i.unmet r then
      match best with
      | none => some r
      | some b => if i.unmet b < i.unmet r then some r else some b
    else best) none

/-- R138, steps 1 to 3. -/
def Incident.assignment (i : Incident) (roles : BitVec 6) : Option Assignment :=
  match i.neededRole roles with
  | some r => some (.role r)
  | none => if i.attendees.length + i.totalUnmet < i.cap then some .extra else none

/-- An admission (R98, R138): the entry is appended and the tally of its role, or the extras count, rises. -/
def Incident.enlist (i : Incident) (x : Attendee) : Incident :=
  let j := { i with attendees := i.attendees ++ [x] }
  match x.assignment with
  | .role r => { j with tallies := update j.tallies r fun n => n + 1 }
  | .extra => { j with extras := j.extras + 1 }

/-- A volunteer's entry in the attendee list. -/
def Incident.entryOf (i : Incident) (v : VolunteerIx) : Option Attendee :=
  i.attendees.find? fun x => x.volunteer = v

/-- A removal (R98, R132): the volunteer's entry is taken out and the count it raised falls. -/
def Incident.remove (i : Incident) (v : VolunteerIx) : Incident :=
  match i.entryOf v with
  | none => i
  | some x =>
    let j := { i with attendees := i.attendees.erase x }
    match x.assignment with
    | .role r => { j with tallies := update j.tallies r fun n => n - 1 }
    | .extra => { j with extras := j.extras - 1 }

/-- R114, step 3: the slot becomes FREE; the closed incident's identity and settings stay. -/
def Incident.close (i : Incident) : Incident :=
  { i with state := .free, timer := none, attendees := [], tallies := Vector.replicate 6 0, extras := 0,
           offers := 0, declines := 0, turnedBack := 0, unreachable := 0 }

/-- The four stage durations of a station (R18, R22). -/
def stationDurations (d : Vector Nat 32) (station : Nat) : Vector Nat 4 :=
  Vector.ofFn fun s => d[4 * station + s.val]?.getD 0

/-- The record an OPEN makes (R109, steps 1 to 4). -/
def Incident.opened (i : Incident) (st : Staging) (x : Settings) (number : Word) (stage : Nat) : Incident :=
  Incident.startTimer
    { i with state := .calling, generation := i.generation + 1, tag := st.tag, station := st.station.toNat,
             priority := st.priority.toNat, openNumber := number,
             durations := stationDurations x.durations st.station.toNat, testScale := x.testScale,
             stage := stage, quotas := st.quotaNumbers, cap := st.cap.toNat, tallies := Vector.replicate 6 0,
             extras := 0, attendees := [], offers := 0, declines := 0, turnedBack := 0, unreachable := 0 }

/-- R112: the new priority, quotas and cap. -/
def Incident.amended (i : Incident) (st : Staging) : Incident :=
  { i with priority := st.priority.toNat, quotas := st.quotaNumbers, cap := st.cap.toNat }

/-- Condition 5 of R111: the extras count plus, over the roles, the larger of tally and staged quota. -/
def Incident.amendFloor (i : Incident) (st : Staging) : Nat :=
  i.extras + sumRoles fun r => max i.tallies[r] (st.quotas[r]).toNat

/-- The demand of the staged quotas (R108, R111). -/
def Staging.demand (s : Staging) : Nat := sumRoles fun r => (s.quotas[r]).toNat

/-- One timer second of a running stage timer (R103). -/
def Incident.tick (i : Incident) : Incident :=
  match i.state, i.timer with
  | .calling, some (n + 1) => { i with timer := some n }
  | _, _ => i

/-- The stage timer of a CALLING incident has reached 0 (R103, R104). -/
def Incident.timerDue (i : Incident) : Bool := i.state = .calling && i.timer = some 0

def Incident.countOffer (i : Incident) : Incident := { i with offers := countUp 255 i.offers }
def Incident.countDecline (i : Incident) : Incident := { i with declines := countUp 255 i.declines }
def Incident.countTurnedBack (i : Incident) : Incident := { i with turnedBack := countUp 255 i.turnedBack }
def Incident.countUnreachable (i : Incident) : Incident := { i with unreachable := i.unreachable + 1 }
def Incident.clearUnreachable (i : Incident) : Incident := { i with unreachable := 0 }

end Sys2Proof.Machine
end

