-- ==== Sys2Proof/Machine/Callout.lean ====
section
/-! DEFINITION. The Callout Engine: offer rounds, withdrawals, admissions, seat events, the seven requests (chapters 6
and 7). -/

namespace Sys2Proof.Machine

/-- Slot `s` holds an incident (R95). -/
def Part.isOpen (p : Part) (s : Slot) : Bool := (p.incident s).state ≠ .free

/-- Some incident slot is not FREE (R24). -/
def Part.anyOpen (p : Part) : Bool := (List.finRange 4).any p.isOpen

/-- A pair of slot and generation names an open incident (R96, R136). -/
def Part.names (p : Part) (s : Slot) (g : BitVec 4) : Bool := p.isOpen s && (p.incident s).generation == g

/-- The incident the staging slot and generation name (R96). -/
def Part.stagedIncident (p : Part) : Option Slot :=
  match slotOf p.bus.staging.slot.toNat with
  | some s => if p.names s p.bus.staging.generation then some s else none
  | none => none

/-- The ALERT of an incident, with its current priority (R128, R136). -/
def Part.alertOf (p : Part) (s : Slot) : Message :=
  let i := p.incident s
  .alert { slot := s, generation := i.generation, station := i.station, priority := i.priority }

/-! ## The offer round -/

/-- Membership of an incident's population (R102); the giving flag is read live (R28). -/
def Part.inPopulation (p : Part) (v : VolunteerIx) (s : Slot) : Bool :=
  let r := p.shadow v
  let i := p.incident s
  if r.station = i.station then r.present && r.tier ≤ min i.stage 3
  else i.stage = 4 && r.present && r.aid && p.settings.active.giving.getLsbD r.station

/-- The slot is in the volunteer's declined-for set (R124). -/
def Part.hasDeclined (p : Part) (v : VolunteerIx) (s : Slot) : Bool := p.engine.standing[v].declined[s]

/-- The incident qualifies for the volunteer (R127). -/
def Part.qualifies (p : Part) (v : VolunteerIx) (s : Slot) : Bool :=
  (p.incident s).served && p.inPopulation v s && !p.hasDeclined v s && (p.incident s).needs (p.shadow v).roles

/-- The qualifying incidents by priority, those of one priority by age, oldest first (R127). -/
def Part.qualifying (p : Part) (v : VolunteerIx) : List Slot :=
  [1, 2, 3].flatMap fun k => p.engine.age.filter fun s => p.qualifies v s && (p.incident s).priority == k

/-- The volunteer's winner (R127). -/
def Part.winner (p : Part) (v : VolunteerIx) : Option Slot := (p.qualifying v).head?

/-- An offer of, or a move to, an incident (R128, R129): the engagement, the offer count, the ALERT. -/
def Part.offer (p : Part) (v : VolunteerIx) (s : Slot) : Part :=
  ((p.onStanding v fun x => { x with engagement := .offered s }).onIncident s Incident.countOffer).tell v
    (p.alertOf s)

/-- Counts a volunteer out of reach in each of some incidents (R130). -/
def Part.countOutOfReach (p : Part) (slots : List Slot) : Part :=
  slots.foldl (fun q s => q.onIncident s Incident.countUnreachable) p

/-- The round's work on one volunteer (R127 to R130). -/
def Part.judgeVolunteer (p : Part) (v : VolunteerIx) : Part :=
  if p.callable v then
    match p.engagement v with
    | .attending _ => p
    | .free =>
      if p.outOfReach v then p.countOutOfReach (p.qualifying v)
      else match p.winner v with
        | some s => p.offer v s
        | none => p
    | .offered t =>
      let higher (s : Slot) : Bool := (p.incident s).priority < (p.incident t).priority
      if p.outOfReach v then p.countOutOfReach ((p.qualifying v).filter higher)
      else match p.winner v with
        | some s => if higher s then p.offer v s else p
        | none => p
  else p

/-- At the start of each round the unreachable count of every slot is set to 0 (R130). -/
def Part.clearUnreachable (p : Part) : Part :=
  p.onEngine fun e => { e with incidents := e.incidents.map Incident.clearUnreachable }

/-- An offer round (R127): the volunteers in ascending number. -/
def Part.round (p : Part) : Part := (List.finRange 240).foldl Part.judgeVolunteer p.clearUnreachable

/-- The round of an event, run when the event gave a cause (R126). -/
def Part.roundIf (p : Part) (cause : Bool) : Part := if cause then p.round else p

/-! ## Withdrawals -/

/-- The volunteer becomes FREE (R131). The pending slot is acted on by the caller, in its place (R40). -/
def Part.setFree (p : Part) (v : VolunteerIx) : Part := p.onStanding v fun x => { x with engagement := .free }

/-- The slot joins the volunteer's declined-for set (R124). -/
def Part.addDeclined (p : Part) (v : VolunteerIx) (s : Slot) : Part :=
  p.onStanding v fun x => { x with declined := update x.declined s fun _ => true }

/-- A STAND-DOWN on the volunteer's seat, and the volunteer becomes FREE: a trim's or close's withdrawal (R131). -/
def Part.standDownFree (p : Part) (v : VolunteerIx) : Part := (p.tell v .standDown).setFree v

/-- The volunteers a test picks, in ascending number. -/
def volunteersWhere (f : VolunteerIx → Bool) : List VolunteerIx := (List.finRange 240).filter f

/-- The volunteers with an offer of slot `s` that a trim withdraws: no role of theirs has an unmet need (R133). -/
def Part.surplus (p : Part) (s : Slot) : List VolunteerIx :=
  volunteersWhere fun v => p.engagement v == .offered s && !(p.incident s).needs (p.shadow v).roles

/-- A trim of slot `s` (R133), the pending slots of those made FREE acted on after it. -/
def Part.trim (p : Part) (s : Slot) : Part :=
  let freed := p.surplus s
  (freed.foldl Part.standDownFree p).actOnPendings freed

/-- The latch of a completion, reported when an incident becomes COMPLETE (R106). -/
def Part.judgeComplete (p : Part) (s : Slot) : Part :=
  if (p.incident s).completes then (p.onIncident s Incident.judgeComplete).report .crewComplete else p

/-- A COMPLETE incident returns to CALLING, with its latch (R107). -/
def Part.judgeReturn (p : Part) (s : Slot) : Part :=
  if (p.incident s).reopens then (p.onIncident s Incident.judgeReturn).report .callingAgain else p

/-- An attendee's removal (R132): the entry, the count and the engagement together; then the incident is judged. -/
def Part.removeAttendee (p : Part) (v : VolunteerIx) (s : Slot) : Part :=
  ((p.onIncident s fun i => i.remove v).setFree v).judgeReturn s

/-! ## Admission -/

/-- R138, steps 1 to 4 of an admission, and for a role the completion judgement of step 5: the entry and count, the
engagement, the latches. -/
def Part.admitted (p : Part) (v : VolunteerIx) (s : Slot) (a : Assignment) (eta : Nat) : Part :=
  let q :=
    ((p.onIncident s fun i => i.enlist { volunteer := v, assignment := a, eta := eta }).onStanding v
      fun x => { x with engagement := .attending s }).report .attendTaken
  match a with
  | .role _ => q.judgeComplete s
  | .extra => q

/-- An admission (R138, steps 1 to 5): for a role, a trim follows. -/
def Part.enlist (p : Part) (v : VolunteerIx) (s : Slot) (a : Assignment) (eta : Nat) : Part :=
  match a with
  | .role _ => (p.admitted v s a eta).trim s
  | .extra => p.admitted v s a eta

/-- The trim of an admission makes somebody FREE: the cause of the event's round (R126, R145). -/
def Part.admitFrees (p : Part) (v : VolunteerIx) (s : Slot) (a : Assignment) (eta : Nat) : Bool :=
  match a with
  | .role _ => !((p.admitted v s a eta).surplus s).isEmpty
  | .extra => false

/-- A turn-back (R139), the pending slot acted on and the round run when the volunteer was OFFERED. -/
def Part.turnBack (p : Part) (v : VolunteerIx) (s : Slot) : Part :=
  let q := (((p.tell v .standDown).addDeclined v s).setFree v).onIncident s Incident.countTurnedBack
  if p.engagement v = .free then q else (q.actOnPending v).round

/-! ## Seat events (7.4) -/

/-- The current ALERT of an engaged volunteer is set again (R136). -/
def Part.alertAgain (p : Part) (v : VolunteerIx) (s : Slot) : Part := p.tell v (p.alertOf s)

/-- An ATTEND that can be judged for admission (R138, R139). -/
def Part.attendAdmit (p : Part) (v : VolunteerIx) (s : Slot) (eta : Nat) : Part :=
  match (p.incident s).assignment (p.shadow v).roles with
  | none => p.turnBack v s
  | some a =>
    let q := p.enlist v s a eta
    (if p.engagement v = .free then q.alertAgain v s else q).roundIf (p.admitFrees v s a eta)

/-- An accepted ATTEND (R137), judged by the first row that matches. -/
def Part.takeAttend (p : Part) (v : VolunteerIx) (eta : Nat) (s : Slot) (g : BitVec 4) : Part :=
  match p.engagement v with
  | .offered t => if t = s ∧ p.names s g then p.attendAdmit v s eta else p.countStale.alertAgain v t
  | .attending t => if t = s ∧ p.names s g then p else p.countStale.alertAgain v t
  | .free =>
    if p.names s g ∧ !p.hasDeclined v s then p.attendAdmit v s eta else p.countStale.tell v .standDown

/-- A decline of an offer (R141), with the pending slot and the round. -/
def Part.declineOffer (p : Part) (v : VolunteerIx) (s : Slot) : Part :=
  ((((((p.tell v .standDown).addDeclined v s).setFree v).onIncident s Incident.countDecline).report
    .declineTaken).actOnPending v).round

/-- A decline after attending (R142), with the pending slot and the round. -/
def Part.declineAttendance (p : Part) (v : VolunteerIx) (s : Slot) : Part :=
  ((((((p.removeAttendee v s).tell v .standDown).addDeclined v s).onIncident s Incident.countDecline).report
    .declineTaken).actOnPending v).round

/-- An accepted DECLINE (R141), judged by the first row that matches. -/
def Part.takeDecline (p : Part) (v : VolunteerIx) (s : Slot) (g : BitVec 4) : Part :=
  match p.engagement v with
  | .offered t => if t = s ∧ p.names s g then p.declineOffer v s else p.countStale.alertAgain v t
  | .attending t => if t = s ∧ p.names s g then p.declineAttendance v s else p.countStale.alertAgain v t
  | .free => p.countStale

/-- Home availability set (R42). -/
def Part.setHome (p : Part) (v : VolunteerIx) (on : Bool) : Part :=
  p.onRosterEntry v fun e => { e with home := on }

/-- An accepted AVAIL-OFF (R143). -/
def Part.takeAvailOff (p : Part) (v : VolunteerIx) : Part :=
  match p.engagement v with
  | .offered s => (p.setHome v false).declineOffer v s
  | .free => p.setHome v false
  | .attending _ => p.setHome v false

/-- An accepted AVAIL-ON (R143): a cause of a round when home availability was OFF. -/
def Part.takeAvailOn (p : Part) (v : VolunteerIx) : Part :=
  (p.setHome v true).roundIf !p.roster.entries[v].home

/-- An accepted seat event passed on for a volunteer (R134). -/
def Part.takeEvent (p : Part) (v : VolunteerIx) : SeatEvent → Part
  | .none => p
  | .attend eta s g => p.takeAttend v eta s g
  | .decline s g => p.takeDecline v s g
  | .availOff => p.takeAvailOff v
  | .availOn => p.takeAvailOn v

/-- A seat's event of a good reply judged (R61 to R63): NONE does nothing; a repeat sets the echo flag again; any other is
accepted, and attributed by the roster as it stands. -/
def Part.judgeEvent (p : Part) (u : UnitIx) (s : Seat) (w : Word) : Part :=
  let event := seatEventOf w
  if event = .none then p
  else if (p.units[u].seat s).lastEvent = some (eventToggle w) then p.onUnit u fun e => { e with echo := true }
  else
    let accepted := p.onUnit u fun e =>
      { e.onSeat s fun x => { x with lastEvent := some (eventToggle w) } with echo := true }
    match accepted.seatHolder u s with
    | some v => accepted.takeEvent v event
    | none => accepted.countStale

/-! ## Stages -/

/-- A stage timer expiry of a CALLING incident, or ADVANCE (R104, R116). -/
def Part.expireStage (p : Part) (s : Slot) : Part :=
  let i := p.incident s
  let q := p.onIncident s Incident.advance
  match usedStageFrom i.durations (i.stage + 1) with
  | some _ => (q.report .stageAdvance).round
  | none => q.report .crewShort

/-! ## Reports of the Unit Table and the Roster Table -/

/-- The volunteers seated at a unit who stand OFFERED, in ascending number (R148). -/
def Part.offeredAt (p : Part) (u : UnitIx) : List VolunteerIx :=
  volunteersWhere fun v =>
    (p.shadow v).present && (p.shadow v).unit == unitNumber u &&
      (match p.engagement v with
       | .offered _ => true
       | _ => false)

/-- A unit is reported disabled (R148): the offers of the volunteers seated there are withdrawn without a message. The
report's round follows where anyone became FREE (R126; log 8). -/
def Part.unitDisabled (p : Part) (u : UnitIx) : Part :=
  let freed := p.offeredAt u
  ((freed.foldl Part.setFree p).actOnPendings freed).roundIf !freed.isEmpty

/-- A unit's active enable takes its staged value, with the Unit Table's report (R50, R51). -/
def Part.takeEnable (p : Part) (u : UnitIx) : Part :=
  let e := p.units[u]
  if e.stagedEnable = e.enabled then p
  else if e.stagedEnable then (p.onUnit u UnitEntry.turnOn).round
  else (p.onUnit u UnitEntry.turnOff).unitDisabled u

/-- Every staged unit enable becomes active, in ascending unit number (R49). -/
def Part.takeEnables (p : Part) : Part := (List.finRange 160).foldl Part.takeEnable p

/-- A roster commit (R32): rejected, applied at once with its round, or placed in the pending slot. -/
def Part.commit (p : Part) (v : VolunteerIx) (w3 : Word) : Part :=
  let r := p.roster.entries[v].committed w3
  match p.commitCheck v r with
  | some why => p.recordReject v why .commit
  | none =>
    match p.engagement v with
    | .free => (p.applyRecord v r).round
    | .offered _ | .attending _ => p.onRosterEntry v fun e => { e with pendingRecord := some r }

/-! ## Requests -/

/-- What a request leaves in the result block beside its code (R14). -/
structure Answer where
  part : Part
  code : ResultCode
  assigned : Option (Slot × BitVec 4)

/-- A refusal leaves the owner's state as it was (R13). -/
def Part.refuse (p : Part) (c : ResultCode) : Answer := { part := p, code := c, assigned := none }

/-- A request carried out. -/
def Part.done (p : Part) : Answer := { part := p, code := .done, assigned := none }

/-- The conditions of R108 in their order; none when the OPEN is carried out. -/
def Part.openCheck (p : Part) : Option ResultCode :=
  let st := p.bus.staging
  let x := p.settings.active
  if !x.scanRun then some .refusedLinkStopped
  else if 7 < st.station.toNat ∨ !x.configured.getLsbD st.station.toNat then some .refusedInvalid
  else if st.priority.toNat = 0 ∨ 3 < st.priority.toNat then some .refusedInvalid
  else if st.startStage.toNat = 0 ∨ 4 < st.startStage.toNat then some .refusedInvalid
  else if st.demand = 0 then some .refusedInvalid
  else if st.cap.toNat < st.demand ∨ 31 < st.cap.toNat then some .refusedInvalid
  else if usedStageFrom (stationDurations x.durations st.station.toNat) st.startStage.toNat = none then
    some .refusedInvalid
  else if (List.finRange 4).all p.isOpen then some .refusedFull
  else none

/-- The lowest-numbered FREE slot (R109). -/
def Part.freeSlot (p : Part) : Option Slot := (List.finRange 4).find? fun s => !p.isOpen s

/-- R109, steps 1 to 4: the incident opened in slot `s` at stage `k`. -/
def Part.openSlot (p : Part) (s : Slot) (k : Nat) : Part :=
  p.onEngine fun e =>
    { e with openCounter := e.openCounter + 1, age := e.age ++ [s],
             incidents := update e.incidents s fun i =>
               i.opened p.bus.staging p.settings.active (e.openCounter + 1) k }

/-- OPEN (R108, R109). -/
def Part.doOpen (p : Part) : Answer :=
  match p.openCheck with
  | some c => p.refuse c
  | none =>
    let d := stationDurations p.settings.active.durations p.bus.staging.station.toNat
    match p.freeSlot, usedStageFrom d p.bus.staging.startStage.toNat with
    | some s, some k =>
      let q := p.openSlot s k
      { part := q.round, code := .done, assigned := some (s, (q.incident s).generation) }
    | _, _ => p.refuse .refusedFull

/-- The conditions of R111 after the first. -/
def Part.amendInvalid (p : Part) (s : Slot) : Bool :=
  let st := p.bus.staging
  (st.priority.toNat = 0 || 3 < st.priority.toNat) || st.demand = 0 || 31 < st.cap.toNat ||
    st.cap.toNat < (p.incident s).amendFloor st

/-- AMEND (R111, R112). -/
def Part.doAmend (p : Part) : Answer :=
  match p.stagedIncident with
  | none => p.refuse .refusedStale
  | some s =>
    if p.amendInvalid s then p.refuse .refusedInvalid
    else
      ((((p.onIncident s fun i => i.amended p.bus.staging).judgeComplete s).judgeReturn s).trim s).round.done

/-- The volunteers engaged with a slot, in ascending number. -/
def Part.engagedWith (p : Part) (s : Slot) : List VolunteerIx :=
  volunteersWhere fun v => p.engagement v == .offered s || p.engagement v == .attending s

/-- R114, step 1: the volunteers engaged with the slot are stood down and become FREE. -/
def Part.standDownSlot (p : Part) (s : Slot) : Part := (p.engagedWith s).foldl Part.standDownFree p

/-- R114, steps 2 and 3: the slot leaves every declined-for set and the age order, and becomes FREE. -/
def Part.freeIncident (p : Part) (s : Slot) : Part :=
  p.onEngine fun e =>
    { e with standing := e.standing.map fun x => { x with declined := update x.declined s fun _ => false },
             incidents := update e.incidents s Incident.close,
             age := e.age.filter fun t => t ≠ s }

/-- CLOSE (R114). Its round runs where anyone became FREE (R126; log 8). -/
def Part.doClose (p : Part) : Answer :=
  match p.stagedIncident with
  | none => p.refuse .refusedStale
  | some s =>
    let freed := p.engagedWith s
    ((((p.standDownSlot s).freeIncident s).actOnPendings freed).roundIf !freed.isEmpty).done

/-- ADVANCE (R116). -/
def Part.doAdvance (p : Part) : Answer :=
  match p.stagedIncident with
  | none => p.refuse .refusedStale
  | some s =>
    if (p.incident s).state = .calling then (p.expireStage s).done else p.refuse .refusedState

/-- MANUAL-ATTEND (R144, R145), for a volunteer and an incident already named. -/
def Part.manualAdmit (p : Part) (v : VolunteerIx) (s : Slot) (eta : Nat) : Answer :=
  match (p.incident s).assignment (p.shadow v).roles with
  | none => p.refuse .refusedState
  | some a => (((p.enlist v s a eta).alertAgain v s).roundIf (p.admitFrees v s a eta)).done

/-- MANUAL-ATTEND (R144, R145). -/
def Part.doManualAttend (p : Part) : Answer :=
  match p.stagedIncident with
  | none => p.refuse .refusedStale
  | some s =>
    match volunteerOf p.bus.staging.volunteer.toNat with
    | none => p.refuse .refusedInvalid
    | some v =>
      let eta := p.bus.staging.eta.toNat
      if !(p.shadow v).present then p.refuse .refusedInvalid
      else if eta = 0 ∨ 3 < eta then p.refuse .refusedInvalid
      else match p.engagement v with
        | .attending t => if t = s then p.done else p.refuse .refusedState
        | .free | .offered _ => p.manualAdmit v s eta

/-- RELEASE (R147). -/
def Part.doRelease (p : Part) : Answer :=
  match volunteerOf p.bus.staging.volunteer.toNat with
  | none => p.refuse .refusedInvalid
  | some v =>
    match p.engagement v with
    | .free => p.refuse .refusedState
    | .offered s => ((((p.tell v .standDown).addDeclined v s).setFree v).actOnPending v).round.done
    | .attending s => ((((p.removeAttendee v s).tell v .standDown).addDeclined v s).actOnPending v).round.done

/-- The slots that are not FREE, in ascending number. -/
def Part.openSlots (p : Part) : List Slot := (List.finRange 4).filter p.isOpen

/-- Every volunteer engaged with an open slot, in ascending number (R117, step 4). -/
def Part.engagedAny (p : Part) : List VolunteerIx :=
  volunteersWhere fun v => p.openSlots.any fun s => p.engagement v == .offered s || p.engagement v == .attending s

/-- ENGINE-CLEAR (R117). Its round runs where anyone became FREE (R126; log 8); no incident is left for it to serve. -/
def Part.doEngineClear (p : Part) : Answer :=
  let freed := p.engagedAny
  let stood := p.openSlots.foldl Part.standDownSlot p
  let closed := p.openSlots.foldl Part.freeIncident stood
  ((closed.actOnPendings freed).roundIf !freed.isEmpty).done

/-- The owner's work on a request, by its code (R13). -/
def Part.request (p : Part) (code : Word) : Answer :=
  if code = 1 then p.doOpen
  else if code = 2 then p.doAmend
  else if code = 3 then p.doClose
  else if code = 4 then p.doAdvance
  else if code = 5 then p.doManualAttend
  else if code = 6 then p.doRelease
  else if code = 7 then p.doEngineClear
  else p.refuse .refusedUnknown

end Sys2Proof.Machine
end

