-- ==== Sys2Proof/Machine/LinkTest.lean ====
section
/-! DEFINITION. The link tests of the Link Check Unit: bursts, listens, beginning and ending (chapter 9). -/

namespace Sys2Proof.Machine

/-- The test the enables give: exactly one of them on (R162). -/
def TestEnables.given (t : TestEnables) : Option TestKind :=
  match t.pattern, t.prbs with
  | true, false => some .pattern
  | false, true => some .prbs
  | _, _ => none

/-- A burst is in flight from the keying of PTT to the end of its listen (R162). -/
def TestPhase.inFlight : TestPhase → Bool
  | .idle => false
  | .retryWait => false
  | .channelWait _ => false
  | .sending _ => true
  | .turnaround => true
  | .listening _ _ => true

/-- The ready check and carrier step read the lines under the active masks (R160). -/
def Part.readyNow (p : Part) : Bool := p.pins.rdy || p.settings.active.link.readyMask

def Part.channelBusy (p : Part) : Bool := p.pins.cd && !p.settings.active.link.carrierMask

/-- The burst is keyed (R164, R166). The generator is advanced over the whole burst at once (log 12). -/
def Part.keyBurst (p : Part) : Part :=
  match p.check.kind with
  | some .pattern => p.onCheck fun c => { c with test := .sending (patternBurst p.settings.active.link) }
  | some .prbs =>
    let (ws, reg) := prbsWords 8 p.check.generator
    p.onCheck fun c => { c with test := .sending (headLeadIn :: ws), generator := reg }
  | none => p

/-- A burst begins with a ready check and a carrier step on the test's own account (R163). -/
def Part.beginBurst (p : Part) : Part :=
  if p.readyNow then
    let q := p.onCheck fun c => { c with episode := false }
    if p.channelBusy then q.onCheck fun c => { c with test := .channelWait p.settings.active.link.lbtLimit }
    else q.keyBurst
  else
    let q := p.onCheck fun c => { c with test := .retryWait, episode := true }
    if p.check.episode then q else q.countNotReady

/-- A test begins, or changes to another kind: for PRBS the generator is set to its starting state (R162). A change of
kind in TEST-RETRY-WAIT does not end the standing episode (DESIGN CHOICE, log 26). -/
def Part.beginTest (p : Part) (k : TestKind) : Part :=
  (p.onCheck fun c => { c with kind := some k, generator := if k = .prbs then 127 else c.generator }).beginBurst

/-- A test ends: TEST-IDLE, and a standing episode ends with it (R168). -/
def Part.endTest (p : Part) : Part := p.onCheck fun c => { c with test := .idle, kind := none, episode := false }

/-- The active test enables judged outside flight (R162, R168): a test begins, ends, or changes kind at once. -/
def Part.judgeTests (p : Part) : Part :=
  if p.check.test.inFlight then p
  else match p.settings.active.tests.given with
    | none => if p.check.test = .idle then p else p.endTest
    | some k => if p.check.test ≠ .idle ∧ p.check.kind = some k then p else p.beginTest k

/-- The end of a burst's listen: what was staged during the burst becomes active (R21), then the active enables are
judged afresh (R162). -/
def Part.endListen (p : Part) : Part :=
  let q := p.onSettings fun s =>
    { s with active := { s.active with link := s.staged.link, tests := s.staged.tests } }
  match q.settings.active.tests.given with
  | none => q.endTest
  | some k => if q.check.kind = some k then q.beginBurst else q.beginTest k

/-- The bits of a burst on the air. -/
def burstBits (ws : List Word) : Nat := 16 * ws.length

/-- The length of the burst of the running test, in bits (R164, R166). -/
def Part.listenBits (p : Part) : Nat :=
  match p.check.kind with
  | some .prbs => 144
  | _ => burstBits (patternBurst p.settings.active.link)

/-- The last bit of a burst has been sent: PTT is released and the turnaround runs (R165, R167). -/
def Part.burstSent (p : Part) : Part :=
  match p.check.test with
  | .sending _ => p.onCheck fun c => { c with test := .turnaround }
  | _ => p

/-- The receiver is armed for the listen window (R165, R167). -/
def Part.armListen (p : Part) : Part :=
  match p.check.test with
  | .turnaround =>
    p.onCheck fun c =>
      { c with test := .listening (windowTicks p.settings.active.link p.listenBits) .seeking }
  | _ => p

/-- The first whole head lead-in of a listen aligns the pattern repeat or starts the checker (R165, R167). A pattern
burst with no mark set cannot be aligned (R164; log 22). -/
def Part.leadInHeard (p : Part) : Part :=
  match p.check.test, p.check.kind with
  | .listening t .seeking, some .pattern =>
    if p.settings.active.link.patternMarks = 0 then p
    else p.onCheck fun c =>
      { c with test := .listening t (.pattern (afterFirstLeadIn (patternPlaces p.settings.active.link.patternMarks))) }
  | .listening t .seeking, some .prbs =>
    p.onCheck fun c => { c with test := .listening t (.prbs 0), checker := 0 }
  | _, _ => p

/-- A received word judged against the place it stands at (R165). -/
def Part.judgePlace (p : Part) (x : Place) (w : Word) : Part :=
  match x with
  | .leadIn => p
  | .word i => if w = p.settings.active.link.patternWords[i] then p.countMatched else p.countMismatched 1

/-- Sixteen bits of an aligned pattern repeat (R165): the listen ends with the last judged word. -/
def Part.patternWord (p : Part) (w : Word) : Part :=
  match p.check.test with
  | .listening t (.pattern (x :: rest)) =>
    let q := (p.judgePlace x w).onCheck fun c => { c with test := .listening t (.pattern rest) }
    if rest = [] then q.endListen else q
  | _ => p

/-- A group of 16 bits of a PRBS repeat (R167): the listen ends with the eighth. -/
def Part.prbsGroup (p : Part) (w : Word) : Part :=
  match p.check.test with
  | .listening t (.prbs n) =>
    let (ok, reg) := checkerGroup n w p.check.checker
    let q := (if ok then p.countMatched else p.countMismatched 1).onCheck fun c =>
      { c with test := .listening t (.prbs (n + 1)), checker := reg }
    if n + 1 < 8 then q else q.endListen
  | _ => p

/-- The words or groups a closing listen window leaves unjudged (R165, R167). -/
def Part.unjudged (p : Part) (l : Listen) : Nat :=
  match l, p.check.kind with
  | .pattern places, _ => judgedPlaces places
  | .prbs n, _ => 8 - n
  | .seeking, some .prbs => 8
  | .seeking, _ => patternJudged p.settings.active.link.patternMarks

/-- The listen window closes (R165, R167). -/
def Part.closeListen (p : Part) : Part :=
  match p.check.test with
  | .listening _ l => (p.countMismatched (p.unjudged l)).endListen
  | _ => p

/-- Scan run becoming active cuts a test off (R23, R168): what is not yet judged is not counted. -/
def Part.cutTest (p : Part) : Part :=
  (p.onSettings fun s => { s with active := { s.active with tests := { pattern := false, prbs := false } } }).endTest

end Sys2Proof.Machine
end

