-- ==== Sys2Proof/Machine/ScanCycle.lean ====
section
/-! DEFINITION. The Scan Controller: attempts, heads, slots, slot ends, cycle ends, hold and stop (chapter 5). -/

namespace Sys2Proof.Machine

/-! ## The frame head (R76, R77) -/

/-- The signal of a control-bit select (R77). -/
def Part.signal (p : Part) (select : Nat) : Bool :=
  let some' (f : Incident → Bool) : Bool := (List.finRange 4).any fun s => p.isOpen s && f (p.incident s)
  match select with
  | 0 => false
  | 1 => true
  | 2 => p.scan.cycle.getLsbD 0
  | 3 => some' fun _ => true
  | 4 => some' fun i => i.state = .calling
  | 5 => some' fun i => i.priority = 1
  | 6 => some' fun i => i.stage = 4
  | 7 => some' fun i => i.testScale
  | k => some' fun i => i.station = k - 8

/-- Control-bit select `i`, 0 to 7 (R18). -/
def LinkSettings.select (l : LinkSettings) (i : Nat) : Nat :=
  if i < 4 then bitsOf l.selectsLow (4 * i) 4 else bitsOf l.selectsHigh (4 * (i - 4)) 4

/-- The control word's low byte: bit i is the signal of select i (R77). -/
def Part.controlByte (p : Part) : Byte :=
  (List.range 8).foldl (fun b i => b ||| ((BitVec.ofBool (p.signal (p.settings.active.link.select i))).setWidth 8 <<< i)) 0

/-- The control word: the high byte is the inverse of the low byte (R77). -/
def Part.controlWord (p : Part) : Word := wordOf p.controlByte (~~~p.controlByte)

/-- A frame head is keyed with the control word computed at its beginning (R76). -/
def Part.sendHead (p : Part) (next : Option (UnitIx × SlotKind)) : Part :=
  let l := p.settings.active.link
  p.onScan fun s =>
    { s with radio := .head (frame headLeadIn (l.syncWords.toList.take l.syncCount ++ [p.controlWord])) p.controlWord
                            next }

/-! ## Slots -/

/-- A slot begins with its unit's command packet (R83). -/
def Part.beginSlot (p : Part) (u : UnitIx) (k : SlotKind) : Part :=
  (p.onScan fun s => { s with slotShown := some (u, k), radio := .packet (p.units[u].packet u) }).onUnit u
    UnitEntry.beginPacket

/-- The oldest urgent entry that has had no urgent slot this cycle (R79). -/
def Scan.urgentChoice (s : Scan) : Option UnitIx := s.urgent.find? fun u => !s.hadUrgent[u]

/-- The first enabled unit, from the current position inclusive, that has had no slot this cycle (R79). The members of
the pass are the enabled units, since no enable changes within a cycle (log 13). -/
def Part.regularChoice (p : Part) : Option UnitIx :=
  (List.finRange 160).find? fun u => p.scan.passPos ≤ u && p.units[u].enabled && !p.scan.hadSlot[u]

/-- The low-byte bits of the control word that trigger a head (R78). -/
def triggerBits (l : LinkSettings) (now last : Byte) : Byte :=
  (now &&& ~~~last &&& l.rising) ||| (~~~now &&& last &&& l.falling)

/-- The chosen slot follows at once, or after a triggered head (R78). -/
def Part.giveSlot (p : Part) (u : UnitIx) (k : SlotKind) : Part :=
  if triggerBits p.settings.active.link p.controlByte (lowByte p.scan.lastHead) ≠ 0 then p.sendHead (some (u, k))
  else p.beginSlot u k

/-! ## The attempt to start a cycle (R72 to R75) -/

/-- Every staged cycle-bound value, other than scan run and the test enables, becomes active (R21). -/
def Part.takeLink (p : Part) : Part :=
  p.onSettings fun s => { s with active := { s.active with link := s.staged.link } }

/-- The cycle start (R75). -/
def Part.startCycle (p : Part) : Part :=
  (p.onScan fun s =>
    { s with cycle := s.cycle + 1, changeSeen := false, hadSlot := Vector.replicate 160 false,
             hadUrgent := Vector.replicate 160 false, passPos := 0, phase := .cycling, retryTimer := false,
             lbtTimer := none, guardTimer := none }).sendHead none

/-- The attempt ends in RETRY-WAIT with the retry timer started (R72, R73). -/
def Part.retryLater (p : Part) (c : RetryCause) : Part :=
  p.onScan fun s => { s with phase := .retryWait c, retryTimer := true, lbtTimer := none, guardTimer := none }

/-- The listen-before-talk step (R74). -/
def Part.listenFirst (p : Part) : Part :=
  if p.channelBusy then
    p.onScan fun s => { s with phase := .channelWait, lbtTimer := some p.settings.active.link.lbtLimit,
                               retryTimer := false, guardTimer := none }
  else p.startCycle

/-- The ready check (R73). -/
def Part.readyCheck (p : Part) : Part :=
  if p.readyNow then (p.onScan fun s => { s with episode := false }).listenFirst
  else
    let q := (p.onScan fun s => { s with episode := true }).retryLater .notReady
    if p.scan.episode then q else q.countNotReady

/-- Some unit is enabled (R72). -/
def Part.anyEnabled (p : Part) : Bool := (List.finRange 160).any fun u => p.units[u].enabled

/-- An attempt to start a cycle (R72): staged values and enables first, then the count of enabled units. -/
def Part.attempt (p : Part) : Part :=
  let q := p.takeLink.takeEnables
  if q.anyEnabled then q.readyCheck else q.retryLater .noUnits

/-- After an event's own work: a hold that it ended is followed by an attempt to start the next cycle (R90; log 9). -/
def Part.settle (p : Part) : Part :=
  if p.scan.phase = .holding ∧ p.scan.guardTimer = none then p.attempt else p

/-! ## Stopping (R24, R91) -/

/-- The link stops (R91): the staged cycle-bound values, the test enables and the unit enables become active, and a test
may begin (R162). -/
def Part.stopLink (p : Part) : Part :=
  (((p.onSettings fun s =>
      { s with active := { s.active with scanRun := false, link := s.staged.link, tests := s.staged.tests } }).onScan
    fun s => { s with phase := .stopped, retryTimer := false, lbtTimer := none, guardTimer := none,
                      episode := false }).takeEnables).judgeTests

/-- A stop is pending: active scan run on with staged scan run off (R94). -/
def Part.stopPending (p : Part) : Bool := p.settings.active.scanRun && !p.settings.staged.scanRun

/-- A stop is refused (R24): STOP-REFUSED is recorded and the staged value returns to on. -/
def Part.refuseStop (p : Part) : Part :=
  (p.recordError .stopRefused 0).onSettings fun s => { s with staged := { s.staged with scanRun := true } }

/-! ## The cycle end (R88) -/

/-- Some incident is CALLING (R89). -/
def Part.anyCalling (p : Part) : Bool := (List.finRange 4).any fun s => (p.incident s).state = .calling

/-- The hold decision (R89); `latched` says that CHANGE-CYCLE was latched at this cycle end. -/
def Part.holds (p : Part) (latched : Bool) : Bool :=
  p.settings.active.link.holdEnable && latched && !p.anyCalling && p.scan.urgent.isEmpty

/-- The hold is entered: the guard timer starts (R89). -/
def Part.enterHold (p : Part) : Part :=
  p.onScan fun s =>
    { s with phase := .holding,
             guardTimer := some { seconds := p.settings.active.link.holdGuard, scaled := p.settings.active.testScale } }

/-- Steps 4 and 5 of the cycle end (R88). -/
def Part.holdOrStart (p : Part) (latched : Bool) : Part := if p.holds latched then p.enterHold else p.attempt

/-- Step 1 of the cycle end (R56, R88). -/
def Part.markChange (p : Part) : Part :=
  let q := p.onScan fun s => { s with changeFound := s.changeSeen, radio := .quiet }
  if p.scan.changeSeen then q.report .changeCycle else q

/-- The end of a cycle (R88). -/
def Part.endCycle (p : Part) : Part :=
  let latched := p.scan.changeSeen && p.enabledSource .changeCycle
  let q := p.markChange.report .cycleEnd
  if q.stopPending then
    if q.anyOpen then q.refuseStop.holdOrStart latched else q.stopLink
  else q.holdOrStart latched

/-- A slot boundary (R79): the oldest eligible urgent entry, else the regular pass, else the cycle ends. -/
def Part.boundary (p : Part) : Part :=
  match p.scan.urgentChoice with
  | some u =>
    (p.onScan fun s => { s with hadSlot := update s.hadSlot u fun _ => true,
                                hadUrgent := update s.hadUrgent u fun _ => true }).giveSlot u .urgent
  | none =>
    match p.regularChoice with
    | some u =>
      (p.onScan fun s => { s with hadSlot := update s.hadSlot u fun _ => true, passPos := u }).giveSlot u .regular
    | none => p.endCycle

/-! ## Events of a slot -/

/-- A frame head has been sent (R76, R79): its control word becomes the last head word; the chosen slot follows a
triggered head, a slot boundary a cycle-start head. -/
def Part.headSent (p : Part) : Part :=
  match p.scan.radio with
  | .head _ control next =>
    let q := p.onScan fun s => { s with lastHead := control, radio := .quiet }
    match next with
    | some (u, k) => q.beginSlot u k
    | none => q.boundary
  | _ => p

/-- The packet has been sent: PTT is released and the turnaround runs (R84). -/
def Part.packetSent (p : Part) : Part :=
  match p.scan.radio with
  | .packet _ => p.onScan fun s => { s with radio := .turnaround }
  | _ => p

/-- The receiver is armed and the reply window opens: 112 bits of reply time, the hops' delay, 5 ms (R84). -/
def Part.armReply (p : Part) : Part :=
  match p.scan.radio with
  | .turnaround => p.onScan fun s => { s with radio := .window (windowTicks p.settings.active.link 112) .nothing }
  | _ => p

/-- A whole reply lead-in: the first in the window starts the slot's reply (R85). -/
def Part.replyStarts (p : Part) : Part :=
  match p.scan.radio with
  | .window t .nothing => p.onScan fun s => { s with radio := .window t .started }
  | _ => p

/-- Steps 1 to 5 of R52 for a good reply. -/
def Part.goodReply (p : Part) (u : UnitIx) (r : Reply) : Part :=
  let returned := p.units[u].link = .silent
  let q1 := p.onUnit u UnitEntry.heardFrom
  let q2 := if returned then q1.report .unitReturn else q1
  let changed := q2.units[u].watchedChange (replyStatus r)
  let q3 := q2.onUnit u fun e => e.takeFlags (replyStatus r)
  let q4 := if changed then (q3.onScan fun s => { s with changeSeen := true }).report .changeNow else q3
  let q5 := (q4.onUnit u fun e => e.onSeat .a fun x => x.confirm (replyEcho r .a)).onUnit u
    fun e => e.onSeat .b fun x => x.confirm (replyEcho r .b)
  let q6 := (q5.onUnit u fun e => e.onSeat .a SeatState.installHeld).onUnit u fun e => e.onSeat .b SeatState.installHeld
  (q6.onUnit u fun e => { e with inquiry := e.inquiry.answered r.result1 r.result2 }).onUnit u
    UnitEntry.installWaiting

/-- Steps 6 and 7 of R52 for a good reply: seat A's event, seat B's event, then the report of a return. -/
def Part.replyEvents (p : Part) (u : UnitIx) (r : Reply) (returned : Bool) : Part :=
  ((p.judgeEvent u .a r.eventA).judgeEvent u .b r.eventB).roundIf returned

/-- A slot ends as GOOD (R52, R86). -/
def Part.slotGood (p : Part) (u : UnitIx) (r : Reply) : Part :=
  let returned := p.units[u].link = .silent
  let q := p.onScan fun s => { s with radio := .quiet }
  ((q.goodReply u r).replyEvents u r returned).boundary

/-- Steps 1 to 5 of R52 for a miss. -/
def Part.miss (p : Part) (u : UnitIx) : Part :=
  let threshold := p.settings.active.silentThreshold
  let silent := p.units[u].goesSilent threshold
  let q1 := p.onUnit u fun e => e.missed threshold
  let q2 := if silent then q1.countSilent else q1
  let q3 := q2.onUnit u fun e => { e with changed := false }
  let q4 := (q3.onUnit u fun e => e.onSeat .a SeatState.installHeld).onUnit u fun e => e.onSeat .b SeatState.installHeld
  (q4.onUnit u fun e => { e with inquiry := e.inquiry.unanswered }).onUnit u UnitEntry.installWaiting

/-- A slot ends as a miss (R52, R86). -/
def Part.slotMissed (p : Part) (u : UnitIx) : Part :=
  ((p.onScan fun s => { s with radio := .quiet }).miss u).boundary

/-- The reply is complete (R86): a good one ends the slot at once, a faulty one leaves it to the window's close. -/
def Part.replyIn (p : Part) (r : Reply) : Part :=
  match p.scan.radio, p.scan.slotShown with
  | .window t .started, some (u, _) =>
    if !replyChecks r then p.onScan fun s => { s with radio := .window t .corrupt }
    else if replyAddress r = unitNumber u then p.slotGood u r
    else p.onScan fun s => { s with radio := .window t .wrongAddress }
  | _, _ => p

/-- The reply window closes (R86): NO-REPLY, WRONG-ADDRESS, or CORRUPT, a truncated reply included. -/
def Part.windowCloses (p : Part) : Part :=
  match p.scan.radio, p.scan.slotShown with
  | .window _ heard, some (u, _) =>
    match heard with
    | .nothing => p.slotMissed u
    | .wrongAddress => p.slotMissed u
    | .started => p.countCorrupt.slotMissed u
    | .corrupt => p.countCorrupt.slotMissed u
  | _, _ => p

/-! ## Timers and CD -/

/-- The 1 s retry timer of RETRY-WAIT expires (R72, R73). -/
def Part.retryExpires (p : Part) : Part := if p.scan.retryTimer then p.attempt else p

/-- CD falls in CHANNEL-WAIT (R74). -/
def Part.carrierFalls (p : Part) : Part :=
  if p.scan.lbtTimer.isSome then (p.onPins fun x => { x with cd := false }).startCycle else p

/-- The listen-before-talk timer expires with CD active (R74): a forced transmit. -/
def Part.lbtExpires (p : Part) : Part := if p.scan.lbtTimer.isSome then p.countForced.startCycle else p

/-- The hold guard expires (R90). -/
def Part.guardExpires (p : Part) : Part :=
  if p.scan.guardTimer.isSome then (p.countOverrun.onScan fun s => { s with guardTimer := none }).attempt else p

/-- CD falls in a test's listen-before-talk wait and the burst is sent (R163). -/
def Part.testCarrierFalls (p : Part) : Part :=
  match p.check.test with
  | .channelWait _ => (p.onPins fun x => { x with cd := false }).keyBurst
  | _ => p

/-- A test's listen-before-talk timer expires and the burst is sent as a forced transmit (R163). A carrier mask that became
active during the wait neither ends it nor makes this expiry uncounted (DESIGN CHOICE, log 25). -/
def Part.testLbtExpires (p : Part) : Part :=
  match p.check.test with
  | .channelWait _ => p.countForced.keyBurst
  | _ => p

/-- The test retry timer expires and the ready check is made again (R163). -/
def Part.testRetryExpires (p : Part) : Part :=
  match p.check.test with
  | .retryWait => p.beginBurst
  | _ => p

end Sys2Proof.Machine
end

