-- ==== Sys2Proof/Machine/Store.lean ====
section
/-! DEFINITION. The Settings Store: the words of the SETUP window (chapter 2), and unit word 0 (R47 to R49). -/

namespace Sys2Proof.Machine

/-- The settings other than scan run and the test enables, by their offsets (R18). -/
inductive Setting where
  | rate
  | hopCount
  | hopDelay
  | syncCount
  | lbtLimit
  | radioMasks
  | holdEnable
  | holdGuard
  | rising
  | falling
  | selectsLow
  | selectsHigh
  | syncWord (i : Fin 7)
  | patternWord (i : Fin 16)
  | patternMarks
  | silentThreshold
  | configured
  | giving
  | duration (i : Fin 32)
  | testScale
  deriving DecidableEq, Repr

/-- The setting an offset names (R18); none at an offset not listed, and at scan run and the test enables, which have
words of their own. -/
def settingAt (off : Nat) : Option Setting :=
  if off = 0x01 then some .rate
  else if off = 0x02 then some .hopCount
  else if off = 0x03 then some .hopDelay
  else if off = 0x04 then some .syncCount
  else if off = 0x05 then some .lbtLimit
  else if off = 0x06 then some .radioMasks
  else if off = 0x07 then some .holdEnable
  else if off = 0x08 then some .holdGuard
  else if off = 0x09 then some .rising
  else if off = 0x0A then some .falling
  else if off = 0x0B then some .selectsLow
  else if off = 0x0C then some .selectsHigh
  else if h : 0x10 ≤ off ∧ off < 0x17 then some (.syncWord ⟨off - 0x10, by omega⟩)
  else if h : 0x20 ≤ off ∧ off < 0x30 then some (.patternWord ⟨off - 0x20, by omega⟩)
  else if off = 0x30 then some .patternMarks
  else if off = 0x40 then some .silentThreshold
  else if off = 0x48 then some .configured
  else if off = 0x49 then some .giving
  else if h : 0x50 ≤ off ∧ off < 0x70 then some (.duration ⟨off - 0x50, by omega⟩)
  else if off = 0x70 then some .testScale
  else none

/-- The stated range of a setting, applied to the whole word (R18). -/
def Setting.range : Setting → Option (Nat × Nat)
  | .rate => some (0, 3)
  | .hopCount => some (0, 7)
  | .hopDelay => some (0, 255)
  | .syncCount => some (1, 7)
  | .lbtLimit => some (1, 50)
  | .holdGuard => some (1, 60)
  | .silentThreshold => some (1, 15)
  | .duration _ => some (0, 3600)
  | .radioMasks | .holdEnable | .rising | .falling | .selectsLow | .selectsHigh | .syncWord _ | .patternWord _
  | .patternMarks | .configured | .giving | .testScale => none

/-- The taking class is cycle-bound (R18); the other settings here are active when taken (R20, R22). -/
def Setting.cycleBound : Setting → Bool
  | .silentThreshold | .configured | .giving | .duration _ | .testScale => false
  | .rate | .hopCount | .hopDelay | .syncCount | .lbtLimit | .radioMasks | .holdEnable | .holdGuard | .rising
  | .falling | .selectsLow | .selectsHigh | .syncWord _ | .patternWord _ | .patternMarks => true

/-- The word lies in the setting's range. -/
def Setting.admits (x : Setting) (w : Word) : Bool :=
  match x.range with
  | some (lo, hi) => lo ≤ w.toNat && w.toNat ≤ hi
  | none => true

/-- A cycle-bound setting takes a word (R18, 11.1). -/
def LinkSettings.put (l : LinkSettings) (x : Setting) (w : Word) : LinkSettings :=
  match x with
  | .rate => { l with rate := w.toNat }
  | .hopCount => { l with hopCount := w.toNat }
  | .hopDelay => { l with hopDelay := w.toNat }
  | .syncCount => { l with syncCount := w.toNat }
  | .lbtLimit => { l with lbtLimit := w.toNat }
  | .radioMasks => { l with carrierMask := w.getLsbD 0, readyMask := w.getLsbD 1 }
  | .holdEnable => { l with holdEnable := w.getLsbD 0 }
  | .holdGuard => { l with holdGuard := w.toNat }
  | .rising => { l with rising := lowByte w }
  | .falling => { l with falling := lowByte w }
  | .selectsLow => { l with selectsLow := w }
  | .selectsHigh => { l with selectsHigh := w }
  | .syncWord i => { l with syncWords := update l.syncWords i fun _ => w }
  | .patternWord i => { l with patternWords := update l.patternWords i fun _ => w }
  | .patternMarks => { l with patternMarks := w }
  | .silentThreshold | .configured | .giving | .duration _ | .testScale => l

/-- A setting takes a word (R18, 11.1). -/
def Settings.put (s : Settings) (x : Setting) (w : Word) : Settings :=
  match x with
  | .silentThreshold => { s with silentThreshold := w.toNat }
  | .configured => { s with configured := lowByte w }
  | .giving => { s with giving := lowByte w }
  | .duration i => { s with durations := update s.durations i fun _ => w.toNat }
  | .testScale => { s with testScale := w.getLsbD 0 }
  | .rate | .hopCount | .hopDelay | .syncCount | .lbtLimit | .radioMasks | .holdEnable | .holdGuard | .rising
  | .falling | .selectsLow | .selectsHigh | .syncWord _ | .patternWord _ | .patternMarks =>
    { s with link := s.link.put x w }

/-- The link is stopped (R91). -/
def Part.stopped (p : Part) : Bool := !p.settings.active.scanRun

/-- A cycle-bound value becomes active as soon as it is taken (R21): the link is stopped and no burst is in flight. -/
def Part.takesAtOnce (p : Part) : Bool := p.stopped && !p.check.test.inFlight

/-- A setting word in range is taken (R19, step 3). -/
def Part.takeSetting (p : Part) (x : Setting) (w : Word) : Part :=
  p.onSettings fun s =>
    { s with staged := s.staged.put x w,
             active := if x.cycleBound && !p.takesAtOnce then s.active else s.active.put x w }

/-- A word at an offset other than scan run and the test enables (R18, R19). -/
def Part.judgeSetting (p : Part) (off : Nat) (w : Word) : Part :=
  match settingAt off with
  | none => p
  | some x => if x.admits w then p.takeSetting x w else p.recordError .outOfRange off

/-- The staged value of scan run. -/
def Part.stageScanRun (p : Part) (on : Bool) : Part :=
  p.onSettings fun s => { s with staged := { s.staged with scanRun := on } }

/-- Scan run becomes active (R23): the active test enables are cleared, a test is cut off, and an attempt to start a
cycle is made. -/
def Part.startLink (p : Part) : Part :=
  (p.onSettings fun s => { s with active := { s.active with scanRun := true } }).cutTest.attempt

/-- A scan run word of on (R23). -/
def Part.scanRunOn (p : Part) : Part :=
  let q := p.stageScanRun true
  if p.stopped then q.startLink else q

/-- A scan run word of off (R24). -/
def Part.scanRunOff (p : Part) : Part :=
  if p.anyOpen then p.refuseStop
  else
    let q := p.stageScanRun false
    match p.scan.phase with
    | .stopped | .channelWait | .cycling => q
    | .retryWait _ | .holding => q.stopLink

/-- The staged test enables replaced. -/
def Part.stageTests (p : Part) (t : TestEnables) : Part :=
  p.onSettings fun s => { s with staged := { s.staged with tests := t } }

/-- The staged test enables become active where R21 and R25 let them: while the link is stopped with no burst in
flight. -/
def Part.takeTests (p : Part) : Part :=
  if p.takesAtOnce then
    (p.onSettings fun s => { s with active := { s.active with tests := s.staged.tests } }).judgeTests
  else p

/-- A test enables word (R25). -/
def Part.testEnables (p : Part) (t : TestEnables) : Part :=
  if t.pattern && t.prbs then
    ((p.stageTests { pattern := false, prbs := false }).recordError .testBoth 0x18).takeTests
  else if (t.pattern || t.prbs) && !p.stopped then (p.stageTests t).recordError .testWhileScanning 0x18
  else (p.stageTests t).takeTests

/-- A word handed to the Settings Store (R5, R19). -/
def Part.takeSetupWord (p : Part) (off : Nat) (w : Word) : Part :=
  if off = 0x00 then (if w.getLsbD 0 then p.scanRunOn else p.scanRunOff)
  else if off = 0x18 then p.testEnables (testEnablesOf w)
  else p.judgeSetting off w

/-- Some cycle-bound setting other than scan run and the test enables waits to become active (R21). -/
def Part.settingsWaiting (p : Part) : Bool := p.settings.staged.link ≠ p.settings.active.link

/-- Unit word 0 (R47 to R49): the watch mask at once, the enable staged, and active at once while the link is stopped. -/
def Part.takeUnitWord0 (p : Part) (u : UnitIx) (w : Word) : Part :=
  let q := p.onUnit u fun e => { e with watch := watchOf w, stagedEnable := enableOf w }
  if p.stopped then q.takeEnable u else q

end Sys2Proof.Machine
end

