-- ==== Sys2Proof/Machine/Board.lean ====
section
/-! DEFINITION. The board as the controller reads it: live words, blocks, the capture latch (chapters 1 and 11). -/

namespace Sys2Proof.Machine

/-! ## Staging and result block -/

/-- A word of the result block (11.2). -/
def ResultBlock.word (r : ResultBlock) (j : Nat) : Word :=
  match j with
  | 0 =>
    match r.assigned with
    | some (s, g) => join [field 0 4 r.code.code, flag 7 true, field 8 2 s.val, field 12 4 g.toNat]
    | none => field 0 4 r.code.code
  | 1 => r.action
  | _ => 0

/-! ## Engine status words -/

/-- The scan's status bits of word 0x2021 (R94, 11.2). -/
def Part.scanStatus (p : Part) : Word :=
  join [field 0 3 p.scan.phase.code, field 3 1 p.scan.phase.causeCode, flag 4 p.settings.active.scanRun,
        flag 5 p.stopPending, flag 6 p.scan.episode, flag 7 p.settingsWaiting, flag 8 p.scan.changeFound,
        flag 11 p.check.episode, field 12 3 p.check.test.code]

/-- Some slot is in flight: a packet, its turnaround or its reply window. -/
def Part.slotInFlight (p : Part) : Bool :=
  match p.scan.radio with
  | .quiet => false
  | .head _ _ _ => false
  | .packet _ | .turnaround | .window _ _ => true

/-- Word 0x2024. -/
def Part.slotStatus (p : Part) : Word :=
  match p.scan.slotShown with
  | some (u, k) => join [field 0 8 (unitNumber u), field 8 2 k.code, flag 15 p.slotInFlight]
  | none => flag 15 p.slotInFlight

/-- The slot at a position of the age order, 0 beyond its entries. -/
def Part.ageAt (p : Part) (j : Nat) : Nat :=
  match p.engine.age[j]? with
  | some s => s.val
  | none => 0

/-- An engine status word, by its place after 0x2020 (R94, R119, 11.2). -/
def Part.statusWord (p : Part) (j : Nat) : Word :=
  match j with
  | 0x0 =>
    let s := p.bus.straps
    join [flag 0 s.addr20, flag 1 s.data8, field 4 4 s.base.toNat, field 8 4 (effectiveBase s)]
  | 0x1 => p.scanStatus
  | 0x2 => p.scan.cycle
  | 0x3 => p.scan.lastHead
  | 0x4 => p.slotStatus
  | 0x5 => join [field 0 8 (unitNumber p.scan.passPos), field 8 8 p.scan.urgent.length]
  | 0x6 => p.engine.openCounter
  | 0x7 =>
    join [field 0 3 ((List.finRange 4).countP p.isOpen), field 4 3 p.engine.age.length, field 8 2 (p.ageAt 0),
          field 10 2 (p.ageAt 1), field 12 2 (p.ageAt 2), field 14 2 (p.ageAt 3)]
  | 0x8 =>
    join [field 0 2 (p.incident 0).state.code, field 2 2 (p.incident 1).state.code,
          field 4 2 (p.incident 2).state.code, field 6 2 (p.incident 3).state.code]
  | 0x9 => field 0 4 p.settings.error.kind.code
  | 0xA => field 0 16 p.settings.error.offset
  | 0xB => field 0 8 p.settings.error.count
  | 0xC =>
    join [field 0 8 (match p.roster.reject.volunteer with
                     | some v => volunteerNumber v
                     | none => 0),
          field 8 4 p.roster.reject.reason.code, field 12 1 p.roster.reject.phase.code]
  | 0xD => field 0 8 p.roster.reject.count
  | _ => 0

/-- A counter word, by its place after 0x2030 (11.2). -/
def Part.counterWord (p : Part) (j : Nat) : Word :=
  match j with
  | 0 => p.bus.requests
  | 1 => field 0 16 p.engine.stale
  | 2 => field 0 16 p.check.corrupt
  | 3 => field 0 8 p.check.forced
  | 4 => field 0 8 p.check.notReady
  | 5 => field 0 8 p.check.silent
  | 6 => field 0 8 p.check.overruns
  | 7 => field 0 16 p.check.matched
  | 8 => field 0 16 p.check.mismatched
  | _ => 0

/-- A notify word, by its place after 0x203C (R156, 11.2). -/
def Part.notifyWord (p : Part) (j : Nat) : Word :=
  match j with
  | 0 => p.notify.a.status.setWidth 16
  | 1 => p.notify.a.enables.setWidth 16
  | 2 => p.notify.b.status.setWidth 16
  | 3 => p.notify.b.enables.setWidth 16
  | _ => 0

/-! ## Incident blocks -/

/-- The position of a slot in the age order, 1 to 4, or 0 when it is not there (R118). -/
def Part.agePosition (p : Part) (s : Slot) : Nat :=
  if s ∈ p.engine.age then p.engine.age.idxOf s + 1 else 0

/-- Attendee entry `n`, 0 to 30 (R118). -/
def Incident.attendeeWord (i : Incident) (n : Nat) : Word :=
  match i.attendees[n]? with
  | some x => join [field 0 8 (volunteerNumber x.volunteer), field 8 3 x.assignment.code, field 12 2 x.eta]
  | none => 0

/-- Word `j` of the incident block of a slot (R118, 11.2). -/
def Part.incidentWord (p : Part) (s : Slot) (j : Nat) : Word :=
  let i := p.incident s
  if j = 0 then
    join [field 0 2 i.state.code, field 2 3 i.stage, flag 5 i.testScale, field 6 2 i.priority,
          field 8 4 i.generation.toNat, field 12 3 i.station, flag 15 i.timer.isSome]
  else if j = 1 then i.tag
  else if j = 2 then i.openNumber
  else if j ≤ 6 then field 0 16 (i.durations[j - 3]?.getD 0)
  else if j = 7 then field 0 16 (i.timer.getD 0)
  else if j ≤ 13 then join [field 0 4 (i.quotas[j - 8]?.getD 0), field 8 5 (i.tallies[j - 8]?.getD 0)]
  else if j = 14 then join [field 0 5 i.cap, field 5 5 i.extras, field 10 5 i.attendees.length]
  else if j = 15 then join [field 0 8 i.offers, field 8 8 i.declines]
  else if j = 16 then join [field 0 8 i.turnedBack, field 8 8 i.unreachable]
  else if j = 17 then field 0 3 (p.agePosition s)
  else if j < 33 then 0
  else i.attendeeWord (j - 33)

/-! ## Volunteer live entries -/

/-- Word 0 of a volunteer's entry (R45, 11.2). -/
def Part.volunteerWord0 (p : Part) (v : VolunteerIx) : Word :=
  let r := p.shadow v
  join [field 0 8 r.unit, field 8 1 r.seat.code, flag 9 r.onCall, flag 10 p.roster.entries[v].home,
        flag 11 (p.callable v), flag 12 p.roster.entries[v].pendingRecord.isSome, flag 15 r.present]

/-- The declined-for flags of a volunteer's entry. -/
def Part.declinedFlags (p : Part) (v : VolunteerIx) : List Word :=
  [flag 12 (p.hasDeclined v 0), flag 13 (p.hasDeclined v 1), flag 14 (p.hasDeclined v 2), flag 15 (p.hasDeclined v 3)]

/-- Word 1 of a volunteer's entry (R125, 11.2). -/
def Part.volunteerWord1 (p : Part) (v : VolunteerIx) : Word :=
  let shown (code slot eta generation : Nat) : Word :=
    join ([field 0 4 code, field 4 2 slot, field 6 2 eta, field 8 4 generation] ++ p.declinedFlags v)
  match p.engagement v with
  | .free => shown 0 0 0 0
  | .offered s => shown 8 s.val 0 (p.incident s).generation.toNat
  | .attending s =>
    match (p.incident s).entryOf v with
    | some x => shown x.assignment.code s.val x.eta (p.incident s).generation.toNat
    | none => shown 0 s.val 0 (p.incident s).generation.toNat

/-! ## Unit live blocks -/

/-- The seat words 2 and 3 of a unit's block (R69, 11.2). -/
def SeatState.boardWord (s : SeatState) : Word :=
  match s.current with
  | none => flag 4 s.toggle
  | some ⟨.standDown, c⟩ => join [field 0 2 2, field 2 2 (if c then 2 else 1), flag 4 s.toggle]
  | some ⟨.alert x, c⟩ =>
    join [field 0 2 1, field 2 2 (if c then 2 else 1), flag 4 s.toggle, field 5 2 x.slot.val,
          field 7 4 x.generation.toNat, field 11 3 x.station, field 14 2 x.priority]

/-- A seat's holder byte as its three fields: bits 3-0, bits 5-4 and bits 7-6 (11.2). -/
def SeatState.holderFields (s : SeatState) : Nat × Nat × Nat :=
  match s.holder with
  | some (.alert x) => (x.generation.toNat, x.slot.val, lastEventCode s.lastEvent)
  | some .standDown => (2, lastEventCode s.lastEvent, 3)
  | none => (0, lastEventCode s.lastEvent, 3)

/-- Word `j` of the live block of a unit (R69, 11.2). -/
def Part.unitWord (p : Part) (u : UnitIx) (j : Nat) : Word :=
  let e := p.units[u]
  match j with
  | 0 => join [flag 0 e.enabled, flag 1 e.stagedEnable, field 2 2 e.link.code, field 4 4 e.misses,
               flag 8 (decide (u ∈ p.scan.urgent))]
  | 1 => join [field 0 4 e.flags.toNat, field 4 4 e.watch.toNat, flag 8 e.changed, flag 9 e.echo]
  | 2 => e.seatA.boardWord
  | 3 => e.seatB.boardWord
  | 4 =>
    let a := e.seatA.holderFields
    let b := e.seatB.holderFields
    join [field 0 4 a.1, field 4 2 a.2.1, field 6 2 a.2.2, field 8 4 b.1, field 12 2 b.2.1, field 14 2 b.2.2]
  | 5 => join [field 0 3 e.inquiry.state.code, field 4 4 e.inquiry.code.toNat,
               field 8 4 (match e.waiting with
                          | some c => c.toNat
                          | none => 0)]
  | 6 => e.inquiry.result1
  | 7 => e.inquiry.result2
  | _ => 0

/-! ## The board map -/

/-- The board block a word belongs to, and its place there (R8), by the offset from 0x2000. -/
def blockAt (k : Nat) : Option (BlockName × Nat) :=
  if h : 0x080 ≤ k ∧ k < 0x180 then some (.incident ⟨(k - 0x080) / 64, by omega⟩, (k - 0x080) % 64)
  else if h : 0x400 ≤ k ∧ k < 0x900 then some (.unit ⟨(k - 0x400) / 8, by omega⟩, (k - 0x400) % 8)
  else none

/-- A word of a block, live. -/
def Part.blockWord (p : Part) (b : BlockName) (j : Nat) : Word :=
  match b with
  | .incident s => p.incidentWord s j
  | .unit u => p.unitWord u j

/-- The number of words of a block (R8). -/
def blockLength : BlockName → Nat
  | .incident _ => 64
  | .unit _ => 8

/-- Every word of a block as it stands (R8). -/
def Part.blockWords (p : Part) (b : BlockName) : List Word := (List.range (blockLength b)).map (p.blockWord b)

/-- The offset from 0x2000 of word 0 of a block. -/
def blockStart : BlockName → Nat
  | .incident s => 0x080 + 64 * s.val
  | .unit u => 0x400 + 8 * u.val

/-- The live value of a board word, by its offset from 0x2000; 0 where the board map assigns none (R6, 11.2). -/
def Part.liveWord (p : Part) (k : Nat) : Word :=
  if k < 0x008 then p.bus.staging.word k
  else if k < 0x010 then 0
  else if k < 0x012 then p.bus.result.word (k - 0x010)
  else if k < 0x020 then 0
  else if k < 0x02E then p.statusWord (k - 0x020)
  else if k < 0x030 then 0
  else if k < 0x039 then p.counterWord (k - 0x030)
  else if k < 0x03C then 0
  else if k < 0x040 then p.notifyWord (k - 0x03C)
  else match blockAt k with
    | some (b, j) => p.blockWord b j
    | none =>
      if h : 0x200 ≤ k ∧ k < 0x3E0 then
        (if (k - 0x200) % 2 = 0 then p.volunteerWord0 ⟨(k - 0x200) / 2, by omega⟩
         else p.volunteerWord1 ⟨(k - 0x200) / 2, by omega⟩)
      else 0

/-! ## The capture latch -/

/-- A fresh capture of a block (R8). -/
def Part.capture (p : Part) (b : BlockName) : Part :=
  p.onBus fun x => { x with capture := some { block := b, words := p.blockWords b } }

/-- A standing capture is released (R9). -/
def Part.release (p : Part) : Part := p.onBus fun x => { x with capture := none }

/-- The copy of word `j` of block `b`, where the capture stands and holds that block (R8). -/
def Bus.copyOf (x : Bus) (b : BlockName) (j : Nat) : Option Word :=
  match x.capture with
  | some c => if c.block = b then some (c.words[j]?.getD 0) else none
  | none => none

/-- A board read of a word taken (R6, R8, R9): the latch after it, and the answer. -/
def Part.answerRead (p : Part) (k : Nat) : Part × Word :=
  match blockAt k with
  | some (b, 0) => (p.capture b, p.blockWord b 0)
  | some (b, j + 1) =>
    match p.bus.copyOf b (j + 1) with
    | some w => (p, w)
    | none => (p.release, p.liveWord k)
  | none => (p.release, p.liveWord k)

end Sys2Proof.Machine
end

