-- ==== Sys2Proof/Machine/Bus.lean ====
section
/-! DEFINITION. The Bus Interposer: words handed over, board writes and requests, byte cycles, cycles by region offset
(chapter 1). -/

namespace Sys2Proof.Machine

/-! ## Words handed over (R5) -/

/-- The volunteer of a roster offset (R3, R5). -/
def rosterVolunteer (off : Nat) (h : 0x0800 ≤ off ∧ off < 0x0BC0) : VolunteerIx := ⟨(off - 0x0800) / 4, by omega⟩

/-- The unit of a unit offset (R3, R5). -/
def unitOfOffset (off : Nat) (h : 0x1000 ≤ off ∧ off < 0x1140) : UnitIx := ⟨(off - 0x1000) / 2, by omega⟩

/-- A roster word handed to the Roster Table (R31, R32). A commit's round may end a hold (R90). -/
def Part.takeRosterWord (p : Part) (v : VolunteerIx) (k : Nat) (w : Word) : Part :=
  if k = 3 then (p.commit v w).settle else p.onRosterEntry v fun e => e.stage k w

/-- A unit word handed to the Unit Table (R47). -/
def Part.takeUnitWord (p : Part) (u : UnitIx) (k : Nat) (w : Word) : Part :=
  if k = 0 then p.takeUnitWord0 u w else p.takeInquiryWord u w

/-- A forwarded word handed to the owner of its window (R5). -/
def Part.handOver (p : Part) (off : Nat) (w : Word) : Part :=
  if off < 0x0100 then p.takeSetupWord off w
  else if h : 0x0800 ≤ off ∧ off < 0x0BC0 then p.takeRosterWord (rosterVolunteer off h) (off % 4) w
  else if h : 0x1000 ≤ off ∧ off < 0x1140 then p.takeUnitWord (unitOfOffset off h) (off % 2) w
  else p

/-! ## Board words taken (R7) -/

/-- A request is taken (R13): the code is kept, the owner acts, the result block takes the result, the request counter
advances, REQUEST-TAKEN is reported. An OPEN ends a hold whatever its result (R90); an attempt that follows a hold's end
comes after all of this (log 9). -/
def Part.takeRequest (p : Part) (code : Word) : Part :=
  let a := (p.onBus fun b => { b with staging := { b.staging with action := code } }).request code
  let worked := if code = 1 then a.part.endHold else a.part
  ((worked.onBus fun b =>
      { b with result := { code := a.code, action := code, assigned := a.assigned }, requests := b.requests + 1 }).report
    .requestTaken).settle

/-- The setting error record is cleared (R27). -/
def Part.clearErrorRecord (p : Part) : Part := p.onSettings fun s => { s with error := ErrorRecord.clear }

/-- The reject record is cleared (R35). -/
def Part.clearRejectRecord (p : Part) : Part := p.onRoster fun r => { r with reject := RejectRecord.clear }

/-- The counter at 0x2030 + `j` is set to 0 (R15, R135, R159). -/
def Part.clearCounter (p : Part) (j : Nat) : Part :=
  match j with
  | 0 => p.onBus fun b => { b with requests := 0 }
  | 1 => p.onEngine fun e => { e with stale := 0 }
  | 2 => p.onCheck fun c => { c with corrupt := 0 }
  | 3 => p.onCheck fun c => { c with forced := 0 }
  | 4 => p.onCheck fun c => { c with notReady := 0 }
  | 5 => p.onCheck fun c => { c with silent := 0 }
  | 6 => p.onCheck fun c => { c with overruns := 0 }
  | 7 => p.onCheck fun c => { c with matched := 0 }
  | 8 => p.onCheck fun c => { c with mismatched := 0 }
  | _ => p

/-- The clear clears the CHANGE-CYCLE latch (R153). -/
def Part.clearsChangeCycle (p : Part) (l : NoteLine) (w : Word) : Bool :=
  l == Source.changeCycle.line && w.getLsbD Source.changeCycle.bit.val &&
    (p.notify.line l).status.getLsbD Source.changeCycle.bit.val

/-- A clear of a line (R153): a clear of CHANGE-CYCLE ends a hold (R90). -/
def Part.clearNotes (p : Part) (l : NoteLine) (w : Word) : Part :=
  let q := p.onNotify fun n => n.onLine l fun u => u.clear (lowByte w)
  (if p.clearsChangeCycle l w then q.endHold else q).settle

/-- A line's enables written (R151). -/
def Part.enableNotes (p : Part) (l : NoteLine) (w : Word) : Part :=
  p.onNotify fun n => n.onLine l fun u => u.enable (lowByte w)

/-- A board word taken, by its offset from 0x2000 (R7). -/
def Part.takeBoardWord (p : Part) (k : Nat) (w : Word) : Part :=
  if k < 0x007 then p.onBus fun b => { b with staging := b.staging.put k w }
  else if k = 0x007 then p.takeRequest w
  else if k = 0x02B then p.clearErrorRecord
  else if k = 0x02D then p.clearRejectRecord
  else if 0x030 ≤ k ∧ k ≤ 0x038 then p.clearCounter (k - 0x030)
  else if k = 0x03C then p.clearNotes .a w
  else if k = 0x03D then p.enableNotes .a w
  else if k = 0x03E then p.clearNotes .b w
  else if k = 0x03F then p.enableNotes .b w
  else p

/-- What every board write does before its word is taken: memory is not selected, a standing capture is released (R9),
and the read high-byte latch becomes EMPTY (R11). -/
def Part.beginBoardWrite (p : Part) : Part :=
  (p.onBus fun b => { b with capture := none, readHigh := none }).viewBoard false 0

/-! ## Byte cycles in 8-bit mode (R10, R11) -/

/-- The byte address of a byte of a region word (R1, R2). -/
def Part.byteAddress (p : Part) (off : Nat) (high : Bool) : Nat := 2 * offsetAddress p.bus.straps off + high.toNat

/-- The memory side of a byte write: forwarded, withheld or plain by the window (R3, R10). -/
def Part.byteToMemory (p : Part) (off : Nat) (high : Bool) (x : Byte) : Part :=
  if windowOf off = .board then p.beginBoardWrite else p.ramByteWrite (p.byteAddress off high) x

/-- An assembled word is handed over or taken as its window has it (R10). -/
def Part.takeWord (p : Part) (off : Nat) (w : Word) : Part :=
  if windowOf off = .board then p.takeBoardWord (off - 0x2000) w else p.handOver off w

/-- The byte-pair latch set. -/
def Part.setPair (p : Part) (x : Option (Nat × Byte)) : Part := p.onBus fun b => { b with bytePair := x }

/-- A low-byte write (R10). -/
def Part.lowByteIn (p : Part) (off : Nat) (x : Byte) : Part :=
  let q := p.byteToMemory off false x
  if windowOf off = .elsewhere then q else q.setPair (some (off, x))

/-- A high-byte write to a window word (R10): it completes the word whose low byte is held, or reports BYTE-PAIR. -/
def Part.completePair (p : Part) (off : Nat) (x : Byte) : Part :=
  match p.bus.bytePair with
  | some (o, lo) => if o = off then (p.setPair none).takeWord off (wordOf lo x) else p.recordError .bytePair off
  | none => p.recordError .bytePair off

/-- A high-byte write (R10). -/
def Part.highByteIn (p : Part) (off : Nat) (x : Byte) : Part :=
  let q := p.byteToMemory off true x
  if windowOf off = .elsewhere then q else q.completePair off x

/-- The read high-byte latch set. -/
def Part.setReadHigh (p : Part) (x : Option (Nat × Byte)) : Part := p.onBus fun b => { b with readHigh := x }

/-- A low-byte read of a board word (R11). -/
def Part.lowByteOut (p : Part) (k : Nat) : Part :=
  let a := p.answerRead k
  (a.1.setReadHigh (some (0x2000 + k, highByte a.2))).viewBoard true ((lowByte a.2).setWidth 16)

/-- A high-byte read of a board word (R11). -/
def Part.highByteOut (p : Part) (k : Nat) : Part :=
  match p.bus.readHigh with
  | some (o, x) =>
    if o = 0x2000 + k then (p.setReadHigh none).viewBoard true (x.setWidth 16)
    else (p.answerRead k).1.viewBoard true ((highByte (p.answerRead k).2).setWidth 16)
  | none => (p.answerRead k).1.viewBoard true ((highByte (p.answerRead k).2).setWidth 16)

/-! ## Cycles by region offset -/

/-- A byte write at a region offset: plain while RESET-N is low (R16). -/
def Part.writeByteAt (p : Part) (off : Nat) (high : Bool) (x : Byte) : Part :=
  if p.pins.resetN then (if high then p.highByteIn off x else p.lowByteIn off x)
  else p.ramByteWrite (p.byteAddress off high) x

/-- A byte read of the board word at 0x2000 + `k`: plain while RESET-N is low (R16). -/
def Part.readByteAt (p : Part) (k : Nat) (high : Bool) : Part :=
  if p.pins.resetN then (if high then p.highByteOut k else p.lowByteOut k)
  else p.ramByteRead (p.byteAddress (0x2000 + k) high)

/-- A whole-word write cycle of 16-bit mode at a region offset (R3, R5, R7, R16). -/
def Part.wordIn (p : Part) (off : Nat) (w : Word) : Part :=
  if p.pins.resetN then
    (if windowOf off = .board then p.beginBoardWrite.takeBoardWord (off - 0x2000) w
     else (p.ramWordWrite (offsetAddress p.bus.straps off) w).handOver off w)
  else p.ramWordWrite (offsetAddress p.bus.straps off) w

/-- A whole-word read cycle of 16-bit mode of the board word at 0x2000 + `k` (R6, R16). -/
def Part.wordOut (p : Part) (k : Nat) : Part :=
  if p.pins.resetN then (p.answerRead k).1.viewBoard true (p.answerRead k).2
  else p.ramWordRead (offsetAddress p.bus.straps (0x2000 + k))

/-- A word written at a region offset: one cycle in 16-bit mode; in 8-bit mode its two byte cycles, low byte first
(log 6). -/
def Part.writeWord (p : Part) (off : Nat) (w : Word) : Part :=
  if p.bus.straps.data8 then (p.writeByteAt off false (lowByte w)).writeByteAt off true (highByte w)
  else p.wordIn off w

/-- A board word read: one cycle in 16-bit mode; in 8-bit mode its two byte cycles, low byte first (log 6). -/
def Part.readWord (p : Part) (k : Nat) : Part :=
  if p.bus.straps.data8 then (p.readByteAt k false).readByteAt k true else p.wordOut k

/-- A board word written, by its offset from 0x2000. -/
def Part.writeBoard (p : Part) (k : Nat) (w : Word) : Part := p.writeWord (0x2000 + k) w

/-- A byte write command: a byte cycle exists in 8-bit mode alone (log 5). -/
def Part.byteWrite (p : Part) (off : Nat) (high : Bool) (x : Byte) : Part :=
  if p.bus.straps.data8 then p.writeByteAt off high x else p

/-- A byte read command: a byte cycle exists in 8-bit mode alone (log 5). -/
def Part.byteRead (p : Part) (k : Nat) (high : Bool) : Part :=
  if p.bus.straps.data8 then p.readByteAt k high else p

/-- A cycle of PLAIN_CYCLE: it acts when its class is plain or RESET-N is low (R3, R4, R16; log 5). -/
def Part.plainCommand (p : Part) (c : BusCycle) : Part :=
  if !p.pins.resetN ∨ classify p.bus.straps c = .plain then p.plainCycle c else p

/-! ## Reset (R16, R17) -/

/-- A cycle begun with RESET-N high, with RESET-N falling before it ends (R17): it completes in its class, and nothing is
observed or taken. -/
def Part.finishCycle (p : Part) (c : BusCycle) : Part :=
  match classify p.bus.straps c with
  | .plain => p.plainCycle c
  | .forwarded _ => p.plainCycle c
  | .boardWrite _ => p.viewBoard false 0
  | .boardRead _ => p.viewBoard true 0

/-- The cycle under way at an edge of RESET-N, if there is one (log 15). -/
def Part.withCycle (p : Part) (c : Option BusCycle) (f : Part → BusCycle → Part) : Part :=
  match c with
  | some x => f p x
  | none => p

/-- Every block at its device reset value (R17), RESET-N at a level, the strap pins as sampled; the static RAM, the
radio's lines and the view of the last cycle are outside the part and stay. -/
def Part.resetBlocks (p : Part) (resetN : Bool) (pins : Straps) : Part :=
  (Part.initial { p.pins with resetN := resetN } pins p.mem).onBus fun b => { b with view := p.bus.view }

/-- RESET-N falls (R16, R17; log 14). -/
def Part.fallReset (p : Part) (pins : Straps) (c : Option BusCycle) : Part :=
  if p.pins.resetN then (p.withCycle c Part.finishCycle).resetBlocks false pins else p

/-- RESET-N rises (R1, R17): the strap pins are kept, and a cycle begun before completes as a plain cycle. -/
def Part.riseReset (p : Part) (pins : Straps) (c : Option BusCycle) : Part :=
  if p.pins.resetN then p else (p.withCycle c Part.plainCycle).resetBlocks true pins

end Sys2Proof.Machine
end

