-- ==== Sys2Proof/Machine/BoardWrites.lean ====
section
/-! DEFINITION. The rows of board writes other than requests: staging, notify words, counters, records (chapters 1, 2, 3, 8, 9). -/

namespace Sys2Proof.Machine

/-- The place of a line's status word after 0x2000 (11.2). -/
def statusPlace : NoteLine → Nat
  | .a => 0x03C
  | .b => 0x03E

/-- The place of a line's enable word after 0x2000 (11.2). -/
def enablePlace : NoteLine → Nat
  | .a => 0x03D
  | .b => 0x03F

/-- STAGING_WRITE (R12). -/
def execStagingWrite (k : Fin 7) (w : Word) (s : State) : Host.Outcome State Fault Refusal :=
  s.run fun p => p.writeBoard k w

/-- NOTIFY_CLEAR (R153). -/
def execNotifyClear (l : NoteLine) (w : Word) (ln : Lines) (s : State) : Host.Outcome State Fault Refusal :=
  s.run fun p => (p.withLines ln).writeBoard (statusPlace l) w

/-- NOTIFY_ENABLE_WRITE (R151). -/
def execNotifyEnableWrite (l : NoteLine) (w : Word) (s : State) : Host.Outcome State Fault Refusal :=
  s.run fun p => p.writeBoard (enablePlace l) w

/-- COUNTER_CLEAR (R159). -/
def execCounterClear (k : Fin 9) (w : Word) (s : State) : Host.Outcome State Fault Refusal :=
  s.run fun p => p.writeBoard (0x030 + k) w

/-- ERROR_RECORD_CLEAR (R27). -/
def execErrorRecordClear (w : Word) (s : State) : Host.Outcome State Fault Refusal :=
  s.run fun p => p.writeBoard 0x02B w

/-- REJECT_RECORD_CLEAR (R35). -/
def execRejectRecordClear (w : Word) (s : State) : Host.Outcome State Fault Refusal :=
  s.run fun p => p.writeBoard 0x02D w

end Sys2Proof.Machine
end

