-- ==== Sys2Proof/Machine/MemoryPath.lean ====
section
/-! DEFINITION. The rows of the memory path: plain cycles, board reads, byte cycles, ignored board writes, reset (chapter 1). -/

namespace Sys2Proof.Machine

/-- PLAIN_CYCLE (R4, R16). -/
def execPlainCycle (c : BusCycle) (s : State) : Host.Outcome State Fault Refusal :=
  s.run fun p => p.plainCommand c

/-- BOARD_READ (R6, R9). -/
def execBoardRead (k : Fin 4096) (s : State) : Host.Outcome State Fault Refusal :=
  s.run fun p => p.readWord k

/-- BOARD_CAPTURE (R8): word 0 of the block is read. -/
def execBoardCapture (b : BlockName) (s : State) : Host.Outcome State Fault Refusal :=
  s.run fun p => p.readWord (blockStart b)

/-- LOW_BYTE_READ (R11). -/
def execLowByteRead (k : Fin 4096) (s : State) : Host.Outcome State Fault Refusal :=
  s.run fun p => p.byteRead k false

/-- HIGH_BYTE_READ (R11). -/
def execHighByteRead (k : Fin 4096) (s : State) : Host.Outcome State Fault Refusal :=
  s.run fun p => p.byteRead k true

/-- LOW_BYTE_WRITE (R10). -/
def execLowByteWrite (off : Fin 16384) (x : Byte) (s : State) : Host.Outcome State Fault Refusal :=
  s.run fun p => p.byteWrite off false x

/-- HIGH_BYTE_WRITE (R10). -/
def execHighByteWrite (off : Fin 16384) (x : Byte) (ln : Lines) (s : State) : Host.Outcome State Fault Refusal :=
  s.run fun p => (p.withLines ln).byteWrite off true x

/-- BOARD_WRITE_IGNORED (R7, R9). -/
def execBoardWriteIgnored (k : Fin 4096) (w : Word) (s : State) : Host.Outcome State Fault Refusal :=
  s.run fun p => p.writeBoard k w

/-- DEVICE_RESET (R16, R17). -/
def execDeviceReset (pins : Straps) (c : Option BusCycle) (s : State) : Host.Outcome State Fault Refusal :=
  s.run fun p => p.fallReset pins c

/-- RESET_RELEASE (R1, R17). -/
def execResetRelease (pins : Straps) (c : Option BusCycle) (s : State) : Host.Outcome State Fault Refusal :=
  s.run fun p => p.riseReset pins c

end Sys2Proof.Machine
end

