-- ==== Sys2Proof/Machine/Requests.lean ====
section
/-! DEFINITION. The rows of the requests: the action word written with their codes (R13). -/

namespace Sys2Proof.Machine

/-- OPEN (R108, R109). -/
def execOpenIncident (ln : Lines) (s : State) : Host.Outcome State Fault Refusal :=
  s.run fun p => (p.withLines ln).writeBoard 0x007 1

/-- AMEND (R111, R112). -/
def execAmend (ln : Lines) (s : State) : Host.Outcome State Fault Refusal :=
  s.run fun p => (p.withLines ln).writeBoard 0x007 2

/-- CLOSE (R114). -/
def execCloseIncident (ln : Lines) (s : State) : Host.Outcome State Fault Refusal :=
  s.run fun p => (p.withLines ln).writeBoard 0x007 3

/-- ADVANCE (R116). -/
def execAdvance (ln : Lines) (s : State) : Host.Outcome State Fault Refusal :=
  s.run fun p => (p.withLines ln).writeBoard 0x007 4

/-- MANUAL_ATTEND (R144, R145). -/
def execManualAttend (ln : Lines) (s : State) : Host.Outcome State Fault Refusal :=
  s.run fun p => (p.withLines ln).writeBoard 0x007 5

/-- RELEASE (R147). -/
def execRelease (ln : Lines) (s : State) : Host.Outcome State Fault Refusal :=
  s.run fun p => (p.withLines ln).writeBoard 0x007 6

/-- ENGINE_CLEAR (R117). -/
def execEngineClear (ln : Lines) (s : State) : Host.Outcome State Fault Refusal :=
  s.run fun p => (p.withLines ln).writeBoard 0x007 7

/-- REFUSED_UNKNOWN (R13). -/
def execRefusedUnknown (code : Word) (s : State) : Host.Outcome State Fault Refusal :=
  s.run fun p => p.writeBoard 0x007 code

end Sys2Proof.Machine
end

