-- ==== Sys2Proof/Machine/ScanEvents.lean ====
section
/-! DEFINITION. The rows of the scan: timers, CD, frames sent and replies received (chapter 5). -/

namespace Sys2Proof.Machine

/-- RETRY_TIMER_EXPIRY (R72, R73). -/
def execRetryTimerExpiry (ln : Lines) (s : State) : Host.Outcome State Fault Refusal :=
  s.run fun p => (p.withLines ln).retryExpires

/-- CD_FALL (R74). -/
def execCdFall (s : State) : Host.Outcome State Fault Refusal :=
  s.run fun p => p.carrierFalls

/-- LBT_TIMER_EXPIRY (R74). -/
def execLbtTimerExpiry (s : State) : Host.Outcome State Fault Refusal :=
  s.run fun p => p.lbtExpires

/-- FRAME_HEAD_END (R76, R79). -/
def execFrameHeadEnd (ln : Lines) (s : State) : Host.Outcome State Fault Refusal :=
  s.run fun p => (p.withLines ln).headSent

/-- PACKET_END (R84). -/
def execPacketEnd (s : State) : Host.Outcome State Fault Refusal :=
  s.run fun p => p.packetSent

/-- TURNAROUND_END (R84). -/
def execTurnaroundEnd (s : State) : Host.Outcome State Fault Refusal :=
  s.run fun p => p.armReply

/-- REPLY_START (R85). -/
def execReplyStart (s : State) : Host.Outcome State Fault Refusal :=
  s.run fun p => p.replyStarts

/-- REPLY_COMPLETE (R86). -/
def execReplyComplete (r : Reply) (ln : Lines) (s : State) : Host.Outcome State Fault Refusal :=
  s.run fun p => (p.withLines ln).replyIn r

/-- REPLY_WINDOW_CLOSE (R86). -/
def execReplyWindowClose (ln : Lines) (s : State) : Host.Outcome State Fault Refusal :=
  s.run fun p => (p.withLines ln).windowCloses

/-- HOLD_GUARD_EXPIRY (R90). -/
def execHoldGuardExpiry (ln : Lines) (s : State) : Host.Outcome State Fault Refusal :=
  s.run fun p => (p.withLines ln).guardExpires

end Sys2Proof.Machine
end

