-- ==== Sys2Proof/Machine/TestEvents.lean ====
section
/-! DEFINITION. The rows of the link tests: waits, bursts and listens (chapter 9). -/

namespace Sys2Proof.Machine

/-- TEST_RETRY_EXPIRY (R163). -/
def execTestRetryExpiry (ln : Lines) (s : State) : Host.Outcome State Fault Refusal :=
  s.run fun p => (p.withLines ln).testRetryExpires

/-- TEST_CD_FALL (R163). -/
def execTestCdFall (s : State) : Host.Outcome State Fault Refusal :=
  s.run fun p => p.testCarrierFalls

/-- TEST_LBT_EXPIRY (R163). -/
def execTestLbtExpiry (s : State) : Host.Outcome State Fault Refusal :=
  s.run fun p => p.testLbtExpires

/-- BURST_END (R165, R167). -/
def execBurstEnd (s : State) : Host.Outcome State Fault Refusal :=
  s.run fun p => p.burstSent

/-- TEST_TURNAROUND_END (R165, R167). -/
def execTestTurnaroundEnd (s : State) : Host.Outcome State Fault Refusal :=
  s.run fun p => p.armListen

/-- TEST_LEAD_IN (R165, R167). -/
def execTestLeadIn (s : State) : Host.Outcome State Fault Refusal :=
  s.run fun p => p.leadInHeard

/-- PATTERN_WORD_RECEIVED (R165). -/
def execPatternWordReceived (w : Word) (ln : Lines) (s : State) : Host.Outcome State Fault Refusal :=
  s.run fun p => (p.withLines ln).patternWord w

/-- PRBS_GROUP_RECEIVED (R167). -/
def execPrbsGroupReceived (w : Word) (ln : Lines) (s : State) : Host.Outcome State Fault Refusal :=
  s.run fun p => (p.withLines ln).prbsGroup w

/-- TEST_LISTEN_CLOSE (R165, R167). -/
def execTestListenClose (ln : Lines) (s : State) : Host.Outcome State Fault Refusal :=
  s.run fun p => (p.withLines ln).closeListen

end Sys2Proof.Machine
end

