-- ==== Sys2Proof/Machine/Timers.lean ====
section
/-! DEFINITION. The rows of the stage timers and the re-pulse timers (R103, R104, R154). -/

namespace Sys2Proof.Machine

/-- The stage timer of a CALLING incident has expired (R104); the round may end a hold (R90). -/
def Part.stageExpires (p : Part) (s : Slot) : Part :=
  if (p.incident s).timerDue then (p.expireStage s).settle else p

/-- A timer second of a slot's stage timer ends (R103). -/
def Part.timerSecond (p : Part) (s : Slot) : Part := p.onIncident s Incident.tick

/-- The re-pulse timer of a line expires (R154): the line follows its latches again (R152). -/
def Part.repulseExpires (p : Part) (l : NoteLine) : Part :=
  p.onNotify fun n => n.onLine l fun u => { u with repulse := false }

/-- STAGE_TIMER_EXPIRY (R104). -/
def execStageTimerExpiry (slot : Slot) (ln : Lines) (s : State) : Host.Outcome State Fault Refusal :=
  s.run fun p => (p.withLines ln).stageExpires slot

/-- REPULSE_TIMER_EXPIRY (R154). -/
def execRepulseTimerExpiry (l : NoteLine) (s : State) : Host.Outcome State Fault Refusal :=
  s.run fun p => p.repulseExpires l

/-- TIMER_SECOND (R103). -/
def execTimerSecond (slot : Slot) (s : State) : Host.Outcome State Fault Refusal :=
  s.run fun p => p.timerSecond slot

end Sys2Proof.Machine
end

