-- ==== Sys2Proof/Machine/WindowWrites.lean ====
section
/-! DEFINITION. The rows of the three forwarded windows: settings, roster words, unit words (chapters 2 to 4). -/

namespace Sys2Proof.Machine

/-- A scan run word: bit 0, and the bits that carry no field. -/
def scanRunWord (rest : BitVec 15) (on : Bool) : Word := rest ++ BitVec.ofBool on

/-- The region offset of word `k` of a volunteer's record (R3). -/
def rosterOffset (v : VolunteerIx) (k : Nat) : Nat := 0x0800 + 4 * v.val + k

/-- The region offset of word `k` of a unit (R3). -/
def unitOffset (u : UnitIx) (k : Nat) : Nat := 0x1000 + 2 * u.val + k

/-- SETUP_WRITE (R19). -/
def execSetupWrite (off : Fin 256) (w : Word) (s : State) : Host.Outcome State Fault Refusal :=
  s.run fun p => p.writeWord off w

/-- SCAN_RUN_ON (R23). -/
def execScanRunOn (rest : BitVec 15) (ln : Lines) (s : State) : Host.Outcome State Fault Refusal :=
  s.run fun p => (p.withLines ln).writeWord 0x00 (scanRunWord rest true)

/-- SCAN_RUN_OFF (R24). -/
def execScanRunOff (rest : BitVec 15) (ln : Lines) (s : State) : Host.Outcome State Fault Refusal :=
  s.run fun p => (p.withLines ln).writeWord 0x00 (scanRunWord rest false)

/-- TEST_ENABLES_WRITE (R25). -/
def execTestEnablesWrite (w : Word) (ln : Lines) (s : State) : Host.Outcome State Fault Refusal :=
  s.run fun p => (p.withLines ln).writeWord 0x18 w

/-- ROSTER_WORD_WRITE (R31). -/
def execRosterWordWrite (v : VolunteerIx) (k : Fin 3) (w : Word) (s : State) : Host.Outcome State Fault Refusal :=
  s.run fun p => p.writeWord (rosterOffset v k) w

/-- ROSTER_COMMIT (R32). -/
def execRosterCommit (v : VolunteerIx) (w : Word) (ln : Lines) (s : State) : Host.Outcome State Fault Refusal :=
  s.run fun p => (p.withLines ln).writeWord (rosterOffset v 3) w

/-- UNIT_WORD0_WRITE (R48, R49). -/
def execUnitWord0Write (u : UnitIx) (w : Word) (s : State) : Host.Outcome State Fault Refusal :=
  s.run fun p => p.writeWord (unitOffset u 0) w

/-- INQUIRY_WRITE (R64). -/
def execInquiryWrite (u : UnitIx) (w : Word) (s : State) : Host.Outcome State Fault Refusal :=
  s.run fun p => p.writeWord (unitOffset u 1) w

end Sys2Proof.Machine
end

