-- ==== Sys2Proof/Machine/Dispatch.lean ====
section
/-! DEFINITION. Which meaning each command has: one arm for each row of the table. -/

namespace Sys2Proof.Machine

def exec (i : Instr) (s : State) : Host.Outcome State Fault Refusal :=
  match i with
  | .plainCycle c => Sys2Proof.Machine.execPlainCycle c s
  | .setupWrite off w => Sys2Proof.Machine.execSetupWrite off w s
  | .scanRunOn rest ln => Sys2Proof.Machine.execScanRunOn rest ln s
  | .scanRunOff rest ln => Sys2Proof.Machine.execScanRunOff rest ln s
  | .testEnablesWrite w ln => Sys2Proof.Machine.execTestEnablesWrite w ln s
  | .rosterWordWrite v k w => Sys2Proof.Machine.execRosterWordWrite v k w s
  | .rosterCommit v w ln => Sys2Proof.Machine.execRosterCommit v w ln s
  | .unitWord0Write u w => Sys2Proof.Machine.execUnitWord0Write u w s
  | .inquiryWrite u w => Sys2Proof.Machine.execInquiryWrite u w s
  | .boardRead k => Sys2Proof.Machine.execBoardRead k s
  | .boardCapture b => Sys2Proof.Machine.execBoardCapture b s
  | .lowByteRead k => Sys2Proof.Machine.execLowByteRead k s
  | .highByteRead k => Sys2Proof.Machine.execHighByteRead k s
  | .lowByteWrite off x => Sys2Proof.Machine.execLowByteWrite off x s
  | .highByteWrite off x ln => Sys2Proof.Machine.execHighByteWrite off x ln s
  | .stagingWrite k w => Sys2Proof.Machine.execStagingWrite k w s
  | .openIncident ln => Sys2Proof.Machine.execOpenIncident ln s
  | .amend ln => Sys2Proof.Machine.execAmend ln s
  | .closeIncident ln => Sys2Proof.Machine.execCloseIncident ln s
  | .advance ln => Sys2Proof.Machine.execAdvance ln s
  | .manualAttend ln => Sys2Proof.Machine.execManualAttend ln s
  | .release ln => Sys2Proof.Machine.execRelease ln s
  | .engineClear ln => Sys2Proof.Machine.execEngineClear ln s
  | .refusedUnknown code => Sys2Proof.Machine.execRefusedUnknown code s
  | .notifyClear l w ln => Sys2Proof.Machine.execNotifyClear l w ln s
  | .notifyEnableWrite l w => Sys2Proof.Machine.execNotifyEnableWrite l w s
  | .counterClear k w => Sys2Proof.Machine.execCounterClear k w s
  | .errorRecordClear w => Sys2Proof.Machine.execErrorRecordClear w s
  | .rejectRecordClear w => Sys2Proof.Machine.execRejectRecordClear w s
  | .boardWriteIgnored k w => Sys2Proof.Machine.execBoardWriteIgnored k w s
  | .deviceReset pins c => Sys2Proof.Machine.execDeviceReset pins c s
  | .resetRelease pins c => Sys2Proof.Machine.execResetRelease pins c s
  | .retryTimerExpiry ln => Sys2Proof.Machine.execRetryTimerExpiry ln s
  | .cdFall => Sys2Proof.Machine.execCdFall s
  | .lbtTimerExpiry => Sys2Proof.Machine.execLbtTimerExpiry s
  | .frameHeadEnd ln => Sys2Proof.Machine.execFrameHeadEnd ln s
  | .packetEnd => Sys2Proof.Machine.execPacketEnd s
  | .turnaroundEnd => Sys2Proof.Machine.execTurnaroundEnd s
  | .replyStart => Sys2Proof.Machine.execReplyStart s
  | .replyComplete r ln => Sys2Proof.Machine.execReplyComplete r ln s
  | .replyWindowClose ln => Sys2Proof.Machine.execReplyWindowClose ln s
  | .holdGuardExpiry ln => Sys2Proof.Machine.execHoldGuardExpiry ln s
  | .stageTimerExpiry slot ln => Sys2Proof.Machine.execStageTimerExpiry slot ln s
  | .repulseTimerExpiry l => Sys2Proof.Machine.execRepulseTimerExpiry l s
  | .testRetryExpiry ln => Sys2Proof.Machine.execTestRetryExpiry ln s
  | .testCdFall => Sys2Proof.Machine.execTestCdFall s
  | .testLbtExpiry => Sys2Proof.Machine.execTestLbtExpiry s
  | .burstEnd => Sys2Proof.Machine.execBurstEnd s
  | .testTurnaroundEnd => Sys2Proof.Machine.execTestTurnaroundEnd s
  | .testLeadIn => Sys2Proof.Machine.execTestLeadIn s
  | .patternWordReceived w ln => Sys2Proof.Machine.execPatternWordReceived w ln s
  | .prbsGroupReceived w ln => Sys2Proof.Machine.execPrbsGroupReceived w ln s
  | .testListenClose ln => Sys2Proof.Machine.execTestListenClose ln s
  | .timerSecond slot => Sys2Proof.Machine.execTimerSecond slot s

end Sys2Proof.Machine
end

