-- ==== Sys2Proof/Safety.lean ====
section
/-! DEFINITION. Laws of the part's state that the statements speak of, and how a statement says what a cycle stored. -/

namespace Sys2Proof.Machine

/-! ## What a cycle leaves -/

/-- Memory `m'` is `m` with word `w` stored at word address `a`, every other byte as it was. -/
def Memory.storesWord (m m' : List Host.Cell) (a : Nat) (w : Word) : Prop :=
  ∀ b, Memory.read m' b =
    if b = 2 * a then lowByte w else if b = 2 * a + 1 then highByte w else Memory.read m b

/-- Memory `m'` is `m` with byte `x` stored at byte address `a`, every other byte as it was. -/
def Memory.storesByte (m m' : List Host.Cell) (a : Nat) (x : Byte) : Prop :=
  ∀ b, Memory.read m' b = if b = a then x else Memory.read m b

/-- The Interposer after the cycles of a forwarded word (R4, R5, R10): in 8-bit mode the byte-pair latch is EMPTY, and
the view is that of the last cycle, a write that reached the memory side. -/
def Bus.afterForward (b : Bus) (off : Nat) : Bus :=
  { b with
    bytePair := if b.straps.data8 then none else b.bytePair
    view := { memSelected := true, memRead := false, memWrite := true,
              address := BitVec.ofNat 20 (if b.straps.data8 then 2 * offsetAddress b.straps off + 1
                                          else offsetAddress b.straps off),
              answer := 0, waited := false } }

/-- The Interposer after the cycles of a board write (R7, R9, R11): the capture and the read high-byte latch are EMPTY,
in 8-bit mode the byte-pair latch too, and memory was not selected. -/
def Bus.afterBoardWrite (b : Bus) : Bus :=
  { b with
    capture := none
    readHigh := none
    bytePair := if b.straps.data8 then none else b.bytePair
    view := { memSelected := false, memRead := false, memWrite := false, address := 0, answer := 0, waited := false } }

/-- `q` is `p` once the word `w` has reached memory at a region offset; nothing is handed over yet. -/
def Part.forwarded (p q : Part) (off : Nat) (w : Word) : Prop :=
  q = { p with bus := p.bus.afterForward off, mem := q.mem } ∧
    Memory.storesWord p.mem q.mem (offsetAddress p.bus.straps off) w

/-- `p` once the cycles of a board write are over; no word is taken yet. -/
def Part.withheld (p : Part) : Part := { p with bus := p.bus.afterBoardWrite }

/-- `p` once a request's code is kept (R13); no owner has acted yet. -/
def Part.requestKept (p : Part) (code : Word) : Part :=
  { p with bus := { p.bus.afterBoardWrite with staging := { p.bus.staging with action := code } } }

/-- `p` with a request's result recorded (R13, steps 2 to 4): result block, request counter, REQUEST-TAKEN. -/
def Part.resultKept (p : Part) (code : Word) (result : ResultCode) (assigned : Option (Slot × BitVec 4)) : Part :=
  ({ p with bus := { p.bus with result := { code := result, action := code, assigned := assigned },
                                requests := p.bus.requests + 1 } }).report .requestTaken

/-- `p` with a setting error recorded (R26). -/
def Part.errorKept (p : Part) (kind : ErrorKind) (off : Nat) : Part :=
  ({ p with settings := { p.settings with error := { kind := kind, offset := off,
                                                     count := if p.settings.error.count < 255 then p.settings.error.count + 1
                                                              else p.settings.error.count } } }).report .settingError

/-- `p` with a roster reject recorded (R34). -/
def Part.rejectKept (p : Part) (v : VolunteerIx) (why : RejectReason) (phase : RejectPhase) : Part :=
  ({ p with roster := { p.roster with reject := { volunteer := some v, reason := why, phase := phase,
                                                  count := if p.roster.reject.count < 255 then p.roster.reject.count + 1
                                                           else p.roster.reject.count } } }).report .settingError

/-- `p` with a stale event counted (R62, R134, R135). -/
def Part.staleKept (p : Part) : Part :=
  ({ p with engine := { p.engine with stale := if p.engine.stale < 65535 then p.engine.stale + 1
                                               else p.engine.stale } }).report .staleEvent

/-- No hold stands ended and unattended: while HOLDING the guard timer runs. No event leaves it otherwise (log 9). -/
def Part.holdStands (p : Part) : Prop := p.scan.phase = .holding → p.scan.guardTimer ≠ none

/-- `p` is the part as a device reset leaves it: `State.reset`'s, or that after either edge of RESET-N. -/
def Part.justReset (p : Part) : Prop :=
  p = State.reset.part ∨ ∃ (s : State) (pins : Straps) (c : Option BusCycle),
    (s.part.pins.resetN = true ∧ exec (.deviceReset pins c) s = .next { s with part := p }) ∨
    (s.part.pins.resetN = false ∧ exec (.resetRelease pins c) s = .next { s with part := p })

/-- A row of R18's table, by offset, other than scan run and the test enables: the range of the whole word, the bits that
carry a field, and whether the class is cycle-bound. -/
def settingRow (off : Nat) : Option (Nat × Nat × Word × Bool) :=
  if off = 0x01 then some (0, 3, 0xFFFF, true)
  else if off = 0x02 then some (0, 7, 0xFFFF, true)
  else if off = 0x03 then some (0, 255, 0xFFFF, true)
  else if off = 0x04 then some (1, 7, 0xFFFF, true)
  else if off = 0x05 then some (1, 50, 0xFFFF, true)
  else if off = 0x06 then some (0, 65535, 0x0003, true)
  else if off = 0x07 then some (0, 65535, 0x0001, true)
  else if off = 0x08 then some (1, 60, 0xFFFF, true)
  else if off = 0x09 ∨ off = 0x0A then some (0, 65535, 0x00FF, true)
  else if off = 0x0B ∨ off = 0x0C then some (0, 65535, 0xFFFF, true)
  else if 0x10 ≤ off ∧ off ≤ 0x16 then some (0, 65535, 0xFFFF, true)
  else if 0x20 ≤ off ∧ off ≤ 0x30 then some (0, 65535, 0xFFFF, true)
  else if off = 0x40 then some (1, 15, 0xFFFF, false)
  else if off = 0x48 ∨ off = 0x49 then some (0, 65535, 0x00FF, false)
  else if 0x50 ≤ off ∧ off ≤ 0x6F then some (0, 3600, 0xFFFF, false)
  else if off = 0x70 then some (0, 65535, 0x0001, false)
  else none

/-- The word a value of the settings stands for at an offset (R18, 11.1). -/
def Settings.wordAt (s : Settings) (off : Nat) : Word :=
  let l := s.link
  if off = 0x00 then (BitVec.ofBool s.scanRun).setWidth 16
  else if off = 0x01 then BitVec.ofNat 16 l.rate
  else if off = 0x02 then BitVec.ofNat 16 l.hopCount
  else if off = 0x03 then BitVec.ofNat 16 l.hopDelay
  else if off = 0x04 then BitVec.ofNat 16 l.syncCount
  else if off = 0x05 then BitVec.ofNat 16 l.lbtLimit
  else if off = 0x06 then (BitVec.ofBool l.readyMask ++ BitVec.ofBool l.carrierMask).setWidth 16
  else if off = 0x07 then (BitVec.ofBool l.holdEnable).setWidth 16
  else if off = 0x08 then BitVec.ofNat 16 l.holdGuard
  else if off = 0x09 then l.rising.setWidth 16
  else if off = 0x0A then l.falling.setWidth 16
  else if off = 0x0B then l.selectsLow
  else if off = 0x0C then l.selectsHigh
  else if h : 0x10 ≤ off ∧ off ≤ 0x16 then l.syncWords[off - 0x10]
  else if off = 0x18 then (BitVec.ofBool s.tests.prbs ++ BitVec.ofBool s.tests.pattern).setWidth 16
  else if h : 0x20 ≤ off ∧ off ≤ 0x2F then l.patternWords[off - 0x20]
  else if off = 0x30 then l.patternMarks
  else if off = 0x40 then BitVec.ofNat 16 s.silentThreshold
  else if off = 0x48 then s.configured.setWidth 16
  else if off = 0x49 then s.giving.setWidth 16
  else if h : 0x50 ≤ off ∧ off ≤ 0x6F then BitVec.ofNat 16 s.durations[off - 0x50]
  else if off = 0x70 then (BitVec.ofBool s.testScale).setWidth 16
  else 0

/-- Volunteer `v` leaves slot `k` for good: FREE, with the slot in the declined-for set (R131, R139, R141, R147). -/
def Part.leaves (p : Part) (v : VolunteerIx) (k : Slot) : Part :=
  let left : Standing := { engagement := .free, declined := p.engine.standing[v].declined.set k true }
  { p with engine := { p.engine with standing := p.engine.standing.set v left } }

/-- `p` with the incident of slot `k` replaced. -/
def Part.setIncident (p : Part) (k : Slot) (i : Incident) : Part :=
  { p with engine := { p.engine with incidents := p.engine.incidents.set k i } }

/-- The staging slot and generation name the open incident of slot `k` (R96). -/
def Part.stagingNames (p : Part) (k : Slot) : Prop :=
  p.bus.staging.slot.toNat = k.val ∧ p.engine.incidents[k].state ≠ .free ∧
    p.engine.incidents[k].generation = p.bus.staging.generation

/-- Volunteers stood down and made FREE, in the order given (R114, R133). -/
def Part.standDownAll (p : Part) (vs : List VolunteerIx) : Part :=
  vs.foldl (fun q v => (q.tell v .standDown).setFree v) p

/-- The incident as a close leaves it (R114, step 3). -/
def Incident.closed (i : Incident) : Incident :=
  { i with state := .free, timer := none, attendees := [], tallies := #v[0, 0, 0, 0, 0, 0], extras := 0, offers := 0,
           declines := 0, turnedBack := 0, unreachable := 0 }

/-- The table of the notify sources: line and bit (8.1). -/
def sourceTable : List (Source × NoteLine × Nat) :=
  [(.attendTaken, .a, 0), (.declineTaken, .a, 1), (.crewComplete, .a, 2), (.crewShort, .a, 3), (.stageAdvance, .a, 4),
   (.callingAgain, .a, 5), (.staleEvent, .a, 6), (.requestTaken, .a, 7), (.unitSilent, .b, 0), (.unitReturn, .b, 1),
   (.changeNow, .b, 2), (.changeCycle, .b, 3), (.holdOverrun, .b, 4), (.cycleEnd, .b, 5), (.radioTrouble, .b, 6),
   (.settingError, .b, 7)]

/-- The board capture after a board read of the word at 0x2000 + `k` (R8, R9). -/
def Part.captureAfter (p : Part) (k : Nat) : Option Capture :=
  match blockAt k, p.bus.capture with
  | some (b, 0), _ => some { block := b, words := p.blockWords b }
  | some (b, _), some c => if c.block = b then some c else none
  | _, _ => none

/-- The answer to a board read of the word at 0x2000 + `k` (R6, R8): from a standing copy of its block, live otherwise.
Word 0 of a block is always live. -/
def Part.boardAnswer (p : Part) (k : Nat) : Word :=
  match blockAt k, p.bus.capture with
  | some (_, 0), _ => p.liveWord k
  | some (b, j), some c => if c.block = b then c.words[j]?.getD 0 else p.liveWord k
  | _, _ => p.liveWord k

/-- What the part drove in a board read (R6): memory not selected, SRDY held, the answer on SD. -/
def BusView.ofBoardRead (answer : Word) : BusView :=
  { memSelected := false, memRead := false, memWrite := false, address := 0, answer := answer, waited := true }

/-- The region offset and the word that a word command carries. -/
def wordOfCommand : Instr → Option (Nat × Word)
  | .setupWrite off w => some (off.val, w)
  | .scanRunOn rest _ => some (0x00, scanRunWord rest true)
  | .scanRunOff rest _ => some (0x00, scanRunWord rest false)
  | .testEnablesWrite w _ => some (0x18, w)
  | .rosterWordWrite v k w => some (0x0800 + 4 * v.val + k.val, w)
  | .rosterCommit v w _ => some (0x0800 + 4 * v.val + 3, w)
  | .unitWord0Write u w => some (0x1000 + 2 * u.val, w)
  | .inquiryWrite u w => some (0x1000 + 2 * u.val + 1, w)
  | .stagingWrite k w => some (0x2000 + k.val, w)
  | .openIncident _ => some (0x2007, 1)
  | .amend _ => some (0x2007, 2)
  | .closeIncident _ => some (0x2007, 3)
  | .advance _ => some (0x2007, 4)
  | .manualAttend _ => some (0x2007, 5)
  | .release _ => some (0x2007, 6)
  | .engineClear _ => some (0x2007, 7)
  | .refusedUnknown code => some (0x2007, code)
  | .notifyClear .a w _ => some (0x203C, w)
  | .notifyEnableWrite .a w => some (0x203D, w)
  | .notifyClear .b w _ => some (0x203E, w)
  | .notifyEnableWrite .b w => some (0x203F, w)
  | .counterClear k w => some (0x2030 + k.val, w)
  | .errorRecordClear w => some (0x202B, w)
  | .rejectRecordClear w => some (0x202D, w)
  | .boardWriteIgnored k w => some (0x2000 + k.val, w)
  | _ => none

/-! ## Layouts (chapter 11) -/

/-- The word that carries the fields listed, each as its lowest bit, its width and its number cut to that width; every
other bit is reserved and 0 (R170). -/
def packed (fields : List (Nat × Nat × Nat)) : Word :=
  BitVec.ofNat 16 (fields.map fun x => x.2.2 % 2 ^ x.2.1 * 2 ^ x.1).sum

/-- The offsets from 0x2000 that the board map assigns (11.2), the reserved staging word 0x2006 left out. -/
def boardAssigned (k : Nat) : Prop :=
  k < 0x006 ∨ k = 0x007 ∨ k = 0x010 ∨ k = 0x011 ∨ (0x020 ≤ k ∧ k ≤ 0x02D) ∨ (0x030 ≤ k ∧ k ≤ 0x038) ∨
    (0x03C ≤ k ∧ k ≤ 0x03F) ∨ (0x080 ≤ k ∧ k ≤ 0x17F) ∨ (0x200 ≤ k ∧ k ≤ 0x3DF) ∨ (0x400 ≤ k ∧ k ≤ 0x8FF)

/-! ## Laws that every step keeps -/

/-- Every saturating counter lies in its range (R26, R34, R135, R158). -/
def Part.countersInRange (p : Part) : Prop :=
  p.settings.error.count ≤ 255 ∧ p.roster.reject.count ≤ 255 ∧ p.engine.stale ≤ 65535 ∧ p.check.corrupt ≤ 65535 ∧
    p.check.forced ≤ 255 ∧ p.check.notReady ≤ 255 ∧ p.check.silent ≤ 255 ∧ p.check.overruns ≤ 255 ∧
    p.check.matched ≤ 65535 ∧ p.check.mismatched ≤ 65535

/-- Every setting with a stated range lies in it (R18). -/
def Settings.inRange (s : Settings) : Prop :=
  s.link.rate ≤ 3 ∧ s.link.hopCount ≤ 7 ∧ s.link.hopDelay ≤ 255 ∧ (1 ≤ s.link.syncCount ∧ s.link.syncCount ≤ 7) ∧
    (1 ≤ s.link.lbtLimit ∧ s.link.lbtLimit ≤ 50) ∧ (1 ≤ s.link.holdGuard ∧ s.link.holdGuard ≤ 60) ∧
    (1 ≤ s.silentThreshold ∧ s.silentThreshold ≤ 15) ∧ ∀ i : Fin 32, s.durations[i] ≤ 3600

/-- Staged and active values lie in their ranges (R18, R19). -/
def SettingsStore.inRange (s : SettingsStore) : Prop := s.staged.inRange ∧ s.active.inRange

/-- A record that is present names a unit, a station, a tier and a role (R33). -/
def Record.valid (r : Record) : Prop :=
  r.present = true → (1 ≤ r.unit ∧ r.unit ≤ 160) ∧ r.station ≤ 7 ∧ r.tier ≠ 0 ∧ r.roles ≠ 0

/-- Shadows and pending records are valid, a shadow not present carries nothing, and no two present shadows name one
seat (R33, R36, R37). -/
def Roster.law (r : Roster) : Prop :=
  (∀ v : VolunteerIx, r.entries[v].shadow.valid ∧ (r.entries[v].shadow.present = false → r.entries[v].shadow = Record.absent) ∧
    ∀ x, r.entries[v].pendingRecord = some x → x.valid) ∧
  ∀ v w : VolunteerIx, v ≠ w → r.entries[v].shadow.present = true → r.entries[w].shadow.present = true →
    ¬(r.entries[v].shadow.unit = r.entries[w].shadow.unit ∧ r.entries[v].shadow.seat = r.entries[w].shadow.seat)

/-- A unit's miss count is within its range, and a DISABLED unit holds no message and no live inquiry (R51, R54). -/
def UnitEntry.law (e : UnitEntry) : Prop :=
  e.misses ≤ 15 ∧
    (e.link = .disabled → e.seatA.current = none ∧ e.seatA.holder = none ∧ e.seatB.current = none ∧
      e.seatB.holder = none ∧ e.waiting = none ∧ e.inquiry.state ≠ .pending ∧ e.inquiry.state ≠ .sent)

/-- The urgent list is the set of units that the condition of R60 picks, each once (R81). -/
def Part.urgentLaw (p : Part) : Prop :=
  p.scan.urgent.Nodup ∧ ∀ u : UnitIx, u ∈ p.scan.urgent ↔ p.units[u].urgent = true

/-- The age order lists exactly the slots that are not FREE, each once (R97). -/
def Engine.ageLaw (e : Engine) : Prop := e.age.Nodup ∧ ∀ s : Slot, s ∈ e.age ↔ e.incidents[s].state ≠ .free

/-- The tallies and the extras count are those of the attendee list (R98). -/
def Incident.countsLaw (i : Incident) : Prop :=
  (∀ r : RoleIx, i.tallies[r] = i.attendees.countP fun x => x.assignment = .role r) ∧
    i.extras = i.attendees.countP fun x => x.assignment = .extra

/-- An open incident has a priority 1 to 3 (R95, R108, R111), and the four counts of a record lie in their ranges (R95,
R130, R131). -/
def Incident.rangeLaw (i : Incident) : Prop :=
  (i.state ≠ .free → 1 ≤ i.priority ∧ i.priority ≤ 3) ∧ i.offers ≤ 255 ∧ i.declines ≤ 255 ∧ i.turnedBack ≤ 255 ∧
    i.unreachable ≤ 240

/-- An open incident keeps the cap law (R100). -/
def Incident.capLaw (i : Incident) : Prop :=
  i.state ≠ .free → i.attendees.length + i.totalUnmet ≤ i.cap ∧ i.cap ≤ 31

/-- An open incident is COMPLETE exactly when its crew is (R99, R106, R107), its current stage is a used one (R101), and
its timer runs exactly while it is CALLING, at no more than the stage's duration (R103); a FREE slot has no attendee. -/
def Incident.stateLaw (i : Incident) : Prop :=
  (i.state = .free → i.attendees = []) ∧
    (i.state ≠ .free → (i.state = .complete ↔ i.crewed = true) ∧
      1 ≤ i.stage ∧ i.stage ≤ 4 ∧ stageDuration i.durations i.stage ≠ 0) ∧
    (i.timer.isSome = true ↔ i.state = .calling) ∧
    ∀ n, i.timer = some n → n ≤ stageDuration i.durations i.stage

/-- A volunteer ATTENDS an incident exactly when the attendee list has an entry for the volunteer, a list has one entry at
most for each, and OFFERED volunteers are offered a CALLING or SHORT incident (R98, R122, R123). -/
def Engine.engagementLaw (e : Engine) : Prop :=
  (∀ (v : VolunteerIx) (s : Slot),
    (e.standing[v].engagement = .attending s ↔ ∃ x ∈ e.incidents[s].attendees, x.volunteer = v) ∧
    (e.standing[v].engagement = .offered s → e.incidents[s].served = true)) ∧
  ∀ s : Slot, (e.incidents[s].attendees.map Attendee.volunteer).Nodup

/-- A pending record is held for an engaged volunteer only (R39). -/
def Part.pendingLaw (p : Part) : Prop :=
  ∀ v : VolunteerIx, p.roster.entries[v].pendingRecord ≠ none → p.engagement v ≠ .free

/-- How the link's phase, its timers and active scan run stand together between events (R72 to R75, R89, R91), and that
an open incident keeps the link running (R92). -/
def Part.linkLaw (p : Part) : Prop :=
  (p.scan.phase = .stopped ↔ p.settings.active.scanRun = false) ∧
    (p.scan.retryTimer = true ↔ ∃ c, p.scan.phase = .retryWait c) ∧
    (p.scan.lbtTimer.isSome = true ↔ p.scan.phase = .channelWait) ∧
    (p.scan.guardTimer.isSome = true ↔ p.scan.phase = .holding) ∧
    (p.scan.radio ≠ .quiet ↔ p.scan.phase = .cycling) ∧
    (p.check.test ≠ .idle → p.scan.phase = .stopped) ∧
    (p.anyOpen = true → p.settings.active.scanRun = true)

end Sys2Proof.Machine
end

