-- ==== Sys2Proof/Certificates/Slice0/Obligations.lean ====
section
/-! DEFINITION. The statements for the provers: the rules of the spec as claims about this model. -/

open Sys2Proof Sys2Proof.Machine

/-! ## Steps -/

/-- The command at the front of the queue is taken with the queue's rest; an empty queue idles (the model's choice,
log 3). -/
def Obligations.StepTakesFrontCommand : Prop :=
  (∀ (s : State) (c : Instr) (rest : List Instr), s.pending = c :: rest →
    step s = exec c { s with pending := rest }) ∧
  ∀ s : State, s.pending = [] → step s = .next s

/-- No command stops the machine: each answers a next state and leaves the queue as it was. That a command whose event
cannot happen as the part stands goes on too is the model's choice (log 5), and so is the queue (log 3). -/
def Obligations.EveryCommandAnswersNext : Prop :=
  ∀ (c : Instr) (s : State), ∃ t, exec c s = .next t ∧ t.pending = s.pending

/-! ## The memory path (chapter 1) -/

/-- A plain cycle reaches the static RAM unchanged (R4): a write stores its byte or word, a read returns what memory
holds, and the part itself is as it was. With RESET-N low every cycle is plain (R16). The byte cells of a word in
16-bit mode and the view of the cycle are the model's (log 2, log 16). -/
def Obligations.PlainCyclePasses : Prop :=
  ∀ (s : State) (c : BusCycle), Memory.wf s.part.mem = true →
    (s.part.pins.resetN = false ∨ classify s.part.bus.straps c = .plain) →
    let a := usedAddress s.part.bus.straps c.sa
    let seen (write : Bool) (x : Word) : BusView :=
      { memSelected := true, memRead := !write, memWrite := write, address := BitVec.ofNat 20 a, answer := x,
        waited := false }
    (c.write = true → ∃ m,
      exec (.plainCycle c) s =
        .next { s with part := { s.part with mem := m, bus := { s.part.bus with view := seen true 0 } } } ∧
      (s.part.bus.straps.data8 = true → Memory.storesByte s.part.mem m a (lowByte c.data)) ∧
      (s.part.bus.straps.data8 = false → Memory.storesWord s.part.mem m a c.data)) ∧
    (c.write = false →
      exec (.plainCycle c) s =
        .next { s with part := { s.part with bus := { s.part.bus with
          view := seen false (if s.part.bus.straps.data8 then (Memory.read s.part.mem a).setWidth 16
                              else wordOf (Memory.read s.part.mem (2 * a)) (Memory.read s.part.mem (2 * a + 1))) } } })

/-- R3: the class of a cycle by its region offset and direction, the region being the 16,384 words from the effective
base (R2). -/
def Obligations.CycleClassFollowsRegion : Prop :=
  ∀ (st : Straps) (c : BusCycle),
    let base := 16384 * (if st.addr20 then st.base.toNat else st.base.toNat % (if st.data8 then 2 else 4))
    let bits := if st.addr20 then c.sa.toNat else c.sa.toNat % 65536
    let word := if st.data8 then bits / 2 else bits
    (word < base ∨ base + 16384 ≤ word → classify st c = .plain) ∧
    ∀ off, word = base + off → off < 16384 →
      let observed := off < 0x0100 ∨ (0x0800 ≤ off ∧ off ≤ 0x0BBF) ∨ (0x1000 ≤ off ∧ off ≤ 0x113F)
      let board := 0x2000 ≤ off ∧ off ≤ 0x2FFF
      (observed → classify st c = if c.write then .forwarded off else .plain) ∧
      (board → classify st c = if c.write then .boardWrite off else .boardRead off) ∧
      (¬observed → ¬board → classify st c = .plain)

/-- R16: while RESET-N is low a word or byte written to a window only reaches memory, a read of a board word returns what
memory holds, no block acts, PTT is released and both notify lines are inactive. The word may lie in any window, BOARD
included. In 8-bit mode a word command is its two byte cycles, low byte first, so a read answers its high byte last (the
model's choice: log 6). Memory is byte cells (log 2); a high-byte write carries the levels of RDY and CD (log 4). -/
def Obligations.ResetLowKeepsPartOut : Prop :=
  ∀ s : State, s.part.pins.resetN = false → Memory.wf s.part.mem = true →
    let straps := s.part.bus.straps
    let byteAt (a : Nat) : Word := (Memory.read s.part.mem a).setWidth 16
    let seen (a : Nat) (write : Bool) (x : Word) : BusView :=
      { memSelected := true, memRead := !write, memWrite := write, address := BitVec.ofNat 20 a, answer := x,
        waited := false }
    let viewed (v : BusView) : State := { s with part := { s.part with bus := { s.part.bus with view := v } } }
    let place (off : Nat) : Nat := offsetAddress straps off
    let readBack (k : Nat) : State :=
      let a := place (0x2000 + k)
      viewed (if straps.data8 then seen (2 * a + 1) false (byteAt (2 * a + 1))
              else seen a false (wordOf (Memory.read s.part.mem (2 * a)) (Memory.read s.part.mem (2 * a + 1))))
    (∀ (c : Instr) (off : Nat) (w : Word), wordOfCommand c = some (off, w) → ∃ t, exec c s = .next t ∧
      t.pending = s.pending ∧
      Memory.storesWord s.part.mem t.part.mem (place off) w ∧
      t.part = { s.part with pins := { t.part.pins with resetN := false },
                             bus := { s.part.bus with view := t.part.bus.view }, mem := t.part.mem } ∧
      t.part.bus.view.memWrite = true ∧ t.part.bus.view.waited = false) ∧
    (∀ k : Fin 4096, exec (.boardRead k) s = .next (readBack k)) ∧
    (∀ b : BlockName, exec (.boardCapture b) s = .next (readBack (blockStart b))) ∧
    (straps.data8 = true →
      (∀ k : Fin 4096,
        let a := 2 * place (0x2000 + k)
        exec (.lowByteRead k) s = .next (viewed (seen a false (byteAt a))) ∧
        exec (.highByteRead k) s = .next (viewed (seen (a + 1) false (byteAt (a + 1))))) ∧
      ∀ (off : Fin 16384) (x : Byte) (ln : Lines),
        let a := 2 * place off
        let stored (p : Part) (m : List Host.Cell) (a : Nat) : State :=
          { s with part := { p with mem := m, bus := { p.bus with view := seen a true 0 } } }
        (∃ m, Memory.storesByte s.part.mem m a x ∧ exec (.lowByteWrite off x) s = .next (stored s.part m a)) ∧
        ∃ m, Memory.storesByte s.part.mem m (a + 1) x ∧
          exec (.highByteWrite off x ln) s = .next (stored (s.part.withLines ln) m (a + 1))) ∧
    s.part.pttKeyed = false ∧ s.part.noteActive .a = false ∧ s.part.noteActive .b = false

/-- R6, R8, R9: a board read is answered by the part, from the standing copy where it holds the word's block and live
otherwise; word 0 of a block takes a fresh capture of all its words; any word outside the captured block releases the
capture. In 8-bit mode the word is read low byte first (log 6), so its high byte is the last answer and the read
high-byte latch ends EMPTY. What MA shows is the model's (log 16). -/
def Obligations.BoardReadAnswered : Prop :=
  ∀ s : State, s.part.pins.resetN = true →
    let after (k : Nat) : State :=
      { s with part := { s.part with bus := { s.part.bus with
          capture := s.part.captureAfter k
          readHigh := if s.part.bus.straps.data8 then none else s.part.bus.readHigh
          view := .ofBoardRead (if s.part.bus.straps.data8 then (highByte (s.part.boardAnswer k)).setWidth 16
                                else s.part.boardAnswer k) } } }
    (∀ k : Fin 4096, exec (.boardRead k) s = .next (after k)) ∧
    ∀ b : BlockName, exec (.boardCapture b) s = .next (after (blockStart b)) ∧
      s.part.captureAfter (blockStart b) =
        some { block := b, words := (List.range (match b with
                                                 | .incident _ => 64
                                                 | .unit _ => 8)).map (s.part.blockWord b) } ∧
      s.part.boardAnswer (blockStart b) = s.part.blockWord b 0

/-- R11: a low-byte read is a read of the word and keeps the high byte of the same answer; a high-byte read returns
the kept byte without touching the capture, or is itself a read of the word. What MA shows is the model's (log 16). -/
def Obligations.ByteReadsPaired : Prop :=
  ∀ (s : State) (k : Fin 4096), s.part.pins.resetN = true → s.part.bus.straps.data8 = true →
    exec (.lowByteRead k) s =
      .next { s with part := { s.part with bus := { s.part.bus with
        capture := s.part.captureAfter k
        readHigh := some (0x2000 + k.val, highByte (s.part.boardAnswer k))
        view := .ofBoardRead ((lowByte (s.part.boardAnswer k)).setWidth 16) } } } ∧
    (∀ x, s.part.bus.readHigh = some (0x2000 + k.val, x) →
      exec (.highByteRead k) s =
        .next { s with part := { s.part with bus := { s.part.bus with
          readHigh := none, view := .ofBoardRead (x.setWidth 16) } } }) ∧
    ((∀ x, s.part.bus.readHigh ≠ some (0x2000 + k.val, x)) →
      exec (.highByteRead k) s =
        .next { s with part := { s.part with bus := { s.part.bus with
          capture := s.part.captureAfter k
          view := .ofBoardRead ((highByte (s.part.boardAnswer k)).setWidth 16) } } })

/-- R10, low byte: forwarded to memory or withheld by its window, and held for its word; a board byte releases the
capture and empties the read high-byte latch (R9, R11). Outside the four windows the byte is plain. What MA shows in a
board cycle is the model's (log 16). -/
def Obligations.LowByteHeld : Prop :=
  ∀ (s : State) (off : Fin 16384) (x : Byte), s.part.pins.resetN = true → s.part.bus.straps.data8 = true →
    Memory.wf s.part.mem = true →
    let a := 2 * offsetAddress s.part.bus.straps off
    let stored : BusView :=
      { memSelected := true, memRead := false, memWrite := true, address := BitVec.ofNat 20 a, answer := 0,
        waited := false }
    ((windowOf off).forwarded = true → ∃ m, Memory.storesByte s.part.mem m a x ∧
      exec (.lowByteWrite off x) s =
        .next { s with part := { s.part with mem := m, bus := { s.part.bus with
          bytePair := some (off.val, x), view := stored } } }) ∧
    (windowOf off = .board →
      exec (.lowByteWrite off x) s =
        .next { s with part := { s.part with bus := { s.part.bus.afterBoardWrite with
          bytePair := some (off.val, x) } } }) ∧
    (windowOf off = .elsewhere → ∃ m, Memory.storesByte s.part.mem m a x ∧
      exec (.lowByteWrite off x) s =
        .next { s with part := { s.part with mem := m, bus := { s.part.bus with view := stored } } })

/-- R10, high byte: with the low byte of the same word held, the word is complete and is handed over or taken, the
latch EMPTY; otherwise BYTE-PAIR is recorded with the word's offset, no word is taken and the latch stays. What MA
shows in a board cycle is the model's (log 16). -/
def Obligations.HighByteCompletesWord : Prop :=
  ∀ (s : State) (off : Fin 16384) (x : Byte) (ln : Lines), s.part.pins.resetN = true →
    s.part.bus.straps.data8 = true → Memory.wf s.part.mem = true →
    let p := s.part.withLines ln
    let a := 2 * offsetAddress s.part.bus.straps off + 1
    let stored : BusView :=
      { memSelected := true, memRead := false, memWrite := true, address := BitVec.ofNat 20 a, answer := 0,
        waited := false }
    ((windowOf off).forwarded = true → ∃ m, Memory.storesByte s.part.mem m a x ∧
      (∀ lo, s.part.bus.bytePair = some (off.val, lo) →
        exec (.highByteWrite off x ln) s =
          .next { s with part := (Part.handOver
            { p with mem := m, bus := { p.bus with bytePair := none, view := stored } } off (wordOf lo x)) }) ∧
      ((∀ lo, s.part.bus.bytePair ≠ some (off.val, lo)) →
        exec (.highByteWrite off x ln) s =
          .next { s with part := (Part.errorKept { p with mem := m, bus := { p.bus with view := stored } }
            .bytePair off) })) ∧
    (windowOf off = .board →
      (∀ lo, s.part.bus.bytePair = some (off.val, lo) →
        exec (.highByteWrite off x ln) s = .next { s with part := p.withheld.takeBoardWord (off - 0x2000) (wordOf lo x) }) ∧
      ((∀ lo, s.part.bus.bytePair ≠ some (off.val, lo)) →
        exec (.highByteWrite off x ln) s =
          .next { s with part := (Part.errorKept
            { p with bus := { p.bus.afterBoardWrite with bytePair := s.part.bus.bytePair } } .bytePair off) })) ∧
    (windowOf off = .elsewhere → ∃ m, Memory.storesByte s.part.mem m a x ∧
      exec (.highByteWrite off x ln) s =
        .next { s with part := { p with mem := m, bus := { p.bus with view := stored } } })

/-- R12: a staging word keeps the bits of its fields and reads back as kept; every other staging word, the action word
included, is as it was. The two byte cycles of a word in 8-bit mode are one command, and MA shows 0 (the model's
choices: log 6, log 16). -/
def Obligations.StagingWordKept : Prop :=
  ∀ (s : State) (k : Fin 7) (w : Word), s.part.pins.resetN = true →
    let mask : Fin 7 → Word := ![0x00FF, 0xFFFF, 0x0FFF, 0xFFFF, 0x3FFF, 0x0FFF, 0x0000]
    ∃ g : Staging,
      exec (.stagingWrite k w) s =
        .next { s with part := { s.part with bus := { s.part.bus.afterBoardWrite with staging := g } } } ∧
      g.word k = w &&& mask k ∧
      ∀ j : Fin 8, j.val ≠ k.val → g.word j = s.part.bus.staging.word j

/-- R13 to R15: every request keeps its code, writes the result block, advances the request counter by one (from
0xFFFF to 0), latches REQUEST-TAKEN if enabled, and leaves the other staging fields and memory as they were. The
assigned flag is set exactly by an OPEN that is DONE. A code that names no request is REFUSED-UNKNOWN, and no block
but the Bus Interposer and the Notify Unit acts on it: the premise there on the hold says that no hold stands ended
and unattended, which no event leaves (log 9). The two byte cycles of a word in 8-bit mode are one command, and MA
shows 0 (the model's choices: log 6, log 16). -/
def Obligations.RequestRecorded : Prop :=
  (∀ (s : State) (c : Instr) (code : Word), s.part.pins.resetN = true → wordOfCommand c = some (0x2007, code) →
    (∃ k, c = .refusedUnknown k ∧ c.wellFormed = true) ∨ (1 ≤ code.toNat ∧ code.toNat ≤ 7) →
    ∃ t, exec c s = .next t ∧ t.pending = s.pending ∧
      t.part.bus.staging = { s.part.bus.staging with action := code } ∧
      t.part.bus.requests = s.part.bus.requests + 1 ∧
      t.part.bus.result.action = code ∧ t.part.bus.result.code ≠ .none ∧
      (t.part.bus.result.assigned.isSome = true ↔ code = 1 ∧ t.part.bus.result.code = .done) ∧
      (t.part.bus.result.code = .refusedUnknown ↔ code = 0 ∨ 7 < code.toNat) ∧
      (s.part.notify.a.enables.getLsbD 7 = true → t.part.notify.a.status.getLsbD 7 = true) ∧
      t.part.mem = s.part.mem) ∧
  ∀ (s : State) (code : Word), s.part.pins.resetN = true → code = 0 ∨ 7 < code.toNat →
    (s.part.scan.phase = .holding → s.part.scan.guardTimer ≠ none) →
    exec (.refusedUnknown code) s =
      .next { s with part := (s.part.requestKept code).resultKept code .refusedUnknown none }

/-- R7, R9: a write of a board word that takes none changes nothing but the standing capture and the latches of the
byte modes; memory keeps what it held. In 8-bit mode the command is its two byte cycles, so the byte-pair latch ends
EMPTY, and MA shows 0 (the model's choices: log 6, log 16). -/
def Obligations.IgnoredBoardWriteChangesNothing : Prop :=
  ∀ (s : State) (k : Fin 4096) (w : Word), s.part.pins.resetN = true → boardWordTakesWrites k = false →
    exec (.boardWriteIgnored k w) s = .next { s with part := s.part.withheld }

/-! ## Reset (R16, R17) -/

/-- The two edges of RESET-N: every block takes its device reset value, the strap pins are sampled, and a cycle under
way completes in its class at a fall (nothing taken) and as a plain cycle at a rise. Memory keeps what it holds. What
stays of the last cycle's view, the levels of RDY and CD, the cycle under way as an operand, and MA in a board cycle are
the model's (log 14, 15, 16). -/
def Obligations.ResetEdges : Prop :=
  ∀ (s : State) (pins : Straps),
    let fresh (resetN : Bool) (mem : List Host.Cell) (view : BusView) : State :=
      { s with part := { Part.initial { s.part.pins with resetN := resetN } pins mem with
          bus := { Bus.initial pins with view := view } } }
    let low : State := { s with part := { s.part with pins := { s.part.pins with resetN := false } } }
    (s.part.pins.resetN = true →
      exec (.deviceReset pins none) s = .next (fresh false s.part.mem s.part.bus.view) ∧
      ∀ c : BusCycle,
        (∀ off, classify s.part.bus.straps c = .boardWrite off →
          exec (.deviceReset pins (some c)) s = .next (fresh false s.part.mem BusView.initial)) ∧
        (∀ off, classify s.part.bus.straps c = .boardRead off →
          exec (.deviceReset pins (some c)) s = .next (fresh false s.part.mem (.ofBoardRead 0))) ∧
        ((classify s.part.bus.straps c = .plain ∨ ∃ off, classify s.part.bus.straps c = .forwarded off) →
          ∀ t, exec (.plainCycle c) low = .next t →
            exec (.deviceReset pins (some c)) s = .next (fresh false t.part.mem t.part.bus.view))) ∧
    (s.part.pins.resetN = false →
      exec (.resetRelease pins none) s = .next (fresh true s.part.mem s.part.bus.view) ∧
      ∀ (c : BusCycle) (t : State), exec (.plainCycle c) s = .next t →
        exec (.resetRelease pins (some c)) s = .next (fresh true t.part.mem t.part.bus.view))

/-- R46 and R70: what a device reset leaves of the Roster Table and the Unit Table, and that nobody is callable. -/
def Obligations.ResetLeavesRosterAndUnits : Prop :=
  ∀ p : Part, p.justReset →
    (∀ v : VolunteerIx, p.roster.entries[v] =
        { staged0 := 0, staged1 := 0, staged2 := 0,
          shadow := { present := false, unit := 0, seat := .a, station := 0, tier := 0, aid := false, roles := 0,
                      onCall := false },
          pendingRecord := none, home := true } ∧
      p.callable v = false) ∧
    p.roster.reject = { volunteer := none, reason := .none, phase := .commit, count := 0 } ∧
    (∀ u : UnitIx, p.units[u] =
        { stagedEnable := false, link := .disabled, misses := 0, flags := 0, watch := 0, changed := false, echo := false,
          seatA := { current := none, toggle := false, holder := none, lastEvent := none },
          seatB := { current := none, toggle := false, holder := none, lastEvent := none },
          inquiry := { state := .idle, code := 0, result1 := 0, result2 := 0 }, waiting := none }) ∧
    p.scan.changeSeen = false ∧ p.scan.changeFound = false ∧ p.scan.urgent = []

/-- What a device reset leaves of the other blocks: the Bus Interposer (R17), the settings (R18, R29), the Scan
Controller (R93), the Callout Engine (R121, R135), the Notify Unit (R157) and the Link Check Unit (R169). -/
def Obligations.ResetLeavesOtherBlocks : Prop :=
  ∀ p : Part, p.justReset →
    (p.bus.capture = none ∧ p.bus.bytePair = none ∧ p.bus.readHigh = none ∧ p.bus.requests = 0 ∧
      p.bus.result = { code := .none, action := 0, assigned := none } ∧ ∀ k, p.bus.staging.word k = 0) ∧
    (p.settings.staged = p.settings.active ∧
      p.settings.error = { kind := .none, offset := 0, count := 0 } ∧
      ∀ off < 256, p.settings.active.wordAt off =
        if off = 0x01 then 1 else if off = 0x03 then 40 else if off = 0x04 then 3 else if off = 0x05 then 20
        else if off = 0x08 then 10 else if off = 0x09 then 0xF2 else if off = 0x0B then 0x5432
        else if off = 0x0C then 0xBA98 else if off = 0x10 then 0xB4E3 else if off = 0x11 then 0x2B5C
        else if off = 0x12 then 0x96A7 else if off = 0x13 then 0x4D1E else if off = 0x14 then 0xE2C9
        else if off = 0x15 then 0x735A else if off = 0x16 then 0x1FB8 else if off = 0x40 then 3 else 0) ∧
    (p.scan = { phase := .stopped, retryTimer := false, lbtTimer := none, guardTimer := none, cycle := 0, lastHead := 0,
                episode := false, urgent := [], hadSlot := Vector.replicate 160 false,
                hadUrgent := Vector.replicate 160 false, passPos := 0, changeSeen := false, changeFound := false,
                slotShown := none, radio := .quiet } ∧ p.pttKeyed = false) ∧
    ((∀ k : Slot, p.engine.incidents[k] =
        { state := .free, generation := 0, tag := 0, station := 0, priority := 0, openNumber := 0,
          durations := #v[0, 0, 0, 0], testScale := false, stage := 0, timer := none, quotas := #v[0, 0, 0, 0, 0, 0],
          cap := 0, tallies := #v[0, 0, 0, 0, 0, 0], extras := 0, attendees := [], offers := 0, declines := 0,
          turnedBack := 0, unreachable := 0 }) ∧
      (∀ v : VolunteerIx, p.engine.standing[v] =
        { engagement := .free, declined := #v[false, false, false, false] }) ∧
      p.engine.age = [] ∧ p.engine.openCounter = 0 ∧ p.engine.stale = 0) ∧
    (∀ l, p.notify.line l = { enables := 0, status := 0, repulse := false } ∧ p.noteActive l = false) ∧
    p.check = { corrupt := 0, forced := 0, notReady := 0, silent := 0, overruns := 0, matched := 0, mismatched := 0,
                test := .idle, kind := none, episode := false, generator := 0x7F, checker := 0 }

/-! ## Settings (chapter 2) -/

/-- R18 to R22, for a word at an offset other than scan run and the test enables: forwarded to memory; dropped at an
offset that names no setting; OUT-OF-RANGE outside the range; else the staged value takes the word's assigned bits,
and the active value too, at once unless the setting is cycle-bound and the link is running or a burst is in flight.
Every other setting keeps its values. The two byte cycles of a word in 8-bit mode are one command (the model's choice:
log 6). -/
def Obligations.SettingWordJudged : Prop :=
  ∀ (s : State) (off : Fin 256) (w : Word), s.part.pins.resetN = true → Memory.wf s.part.mem = true →
    off.val ≠ 0x00 → off.val ≠ 0x18 → ∃ q, s.part.forwarded q off w ∧
      (settingRow off = none → exec (.setupWrite off w) s = .next { s with part := q }) ∧
      ∀ lo hi mask cycleBound, settingRow off = some (lo, hi, mask, cycleBound) →
        (w.toNat < lo ∨ hi < w.toNat →
          exec (.setupWrite off w) s = .next { s with part := q.errorKept .outOfRange off }) ∧
        (lo ≤ w.toNat → w.toNat ≤ hi → ∃ staged active,
          exec (.setupWrite off w) s =
            .next { s with part := { q with settings := { q.settings with staged := staged, active := active } } } ∧
          staged.wordAt off = w &&& mask ∧
          (∀ o < 256, o ≠ off.val → staged.wordAt o = s.part.settings.staged.wordAt o) ∧
          (if cycleBound = true ∧ (s.part.settings.active.scanRun = true ∨ s.part.check.test.inFlight = true)
           then active = s.part.settings.active
           else active.wordAt off = w &&& mask ∧
             ∀ o < 256, o ≠ off.val → active.wordAt o = s.part.settings.active.wordAt o))

/-- R23: scan run on is staged; if the active value was off it becomes on, the active test enables are cleared, a test
ends with nothing counted, and an attempt to start a cycle is made. A pending stop is thereby cancelled. The two byte
cycles of a word in 8-bit mode are one command (the model's choice: log 6). -/
def Obligations.ScanRunOn : Prop :=
  ∀ (s : State) (rest : BitVec 15) (ln : Lines), s.part.pins.resetN = true → Memory.wf s.part.mem = true →
    ∃ q, (s.part.withLines ln).forwarded q 0x00 (rest ++ 1#1) ∧
      let x := q.settings
      (x.active.scanRun = true →
        exec (.scanRunOn rest ln) s =
          .next { s with part := { q with settings := { x with staged := { x.staged with scanRun := true } } } }) ∧
      (x.active.scanRun = false →
        exec (.scanRunOn rest ln) s =
          .next { s with part := (Part.attempt
            { q with
              settings := { x with staged := { x.staged with scanRun := true },
                                   active := { x.active with scanRun := true,
                                                             tests := { pattern := false, prbs := false } } }
              check := { q.check with test := .idle, kind := none, episode := false } }) })

/-- R24: scan run off is refused while a slot is not FREE; else staged, pending while a cycle is in progress; from
RETRY-WAIT and HOLDING the link stops at once. The stop (R91): scan run off, the staged cycle-bound values and test
enables active, the timers stopped, the episode ended, then the staged unit enables (R49) and the test enables judged
(R162). The two byte cycles of a word in 8-bit mode are one command (the model's choice: log 6). -/
def Obligations.ScanRunOff : Prop :=
  (∀ (s : State) (rest : BitVec 15) (ln : Lines), s.part.pins.resetN = true → Memory.wf s.part.mem = true →
    ∃ q, (s.part.withLines ln).forwarded q 0x00 (rest ++ 0#1) ∧
      let staged (p : Part) (on : Bool) : Part :=
        { p with settings := { p.settings with staged := { p.settings.staged with scanRun := on } } }
      ((∃ k : Slot, s.part.engine.incidents[k].state ≠ .free) →
        exec (.scanRunOff rest ln) s = .next { s with part := staged (q.errorKept .stopRefused 0) true }) ∧
      ((∀ k : Slot, s.part.engine.incidents[k].state = .free) →
        (s.part.scan.phase = .stopped ∨ s.part.scan.phase = .channelWait ∨ s.part.scan.phase = .cycling →
          exec (.scanRunOff rest ln) s = .next { s with part := staged q false }) ∧
        ((∃ c, s.part.scan.phase = .retryWait c) ∨ s.part.scan.phase = .holding →
          exec (.scanRunOff rest ln) s = .next { s with part := (staged q false).stopLink }))) ∧
  ∀ p : Part,
    p.stopLink = ((Part.takeEnables
      { p with
        settings := { p.settings with active := { p.settings.active with
          scanRun := false, link := p.settings.staged.link, tests := p.settings.staged.tests } }
        scan := { p.scan with phase := .stopped, retryTimer := false, lbtTimer := none, guardTimer := none,
                              episode := false } }).judgeTests)

/-- R25: both enables on, exactly one on while scan run is active, and the other words; while the link is stopped with
no burst in flight the staged enables become active, and R162 and R168 judge them. The two byte cycles of a word in
8-bit mode are one command (the model's choice: log 6). -/
def Obligations.TestEnablesJudged : Prop :=
  ∀ (s : State) (w : Word) (ln : Lines), s.part.pins.resetN = true → Memory.wf s.part.mem = true →
    ∃ q, (s.part.withLines ln).forwarded q 0x18 w ∧
      let given : TestEnables := { pattern := w.getLsbD 0, prbs := w.getLsbD 1 }
      let off : TestEnables := { pattern := false, prbs := false }
      let staged (p : Part) (t : TestEnables) : Part :=
        { p with settings := { p.settings with staged := { p.settings.staged with tests := t } } }
      let taken (p : Part) (t : TestEnables) : Part :=
        if s.part.settings.active.scanRun = false ∧ s.part.check.test.inFlight = false then
          Part.judgeTests
            { p with settings := { p.settings with active := { p.settings.active with tests := t } } }
        else p
      (given.pattern = true ∧ given.prbs = true →
        exec (.testEnablesWrite w ln) s =
          .next { s with part := taken ((staged q off).errorKept .testBoth 0x18) off }) ∧
      (given.pattern ≠ given.prbs → s.part.settings.active.scanRun = true →
        exec (.testEnablesWrite w ln) s =
          .next { s with part := (staged q given).errorKept .testWhileScanning 0x18 }) ∧
      (given.pattern ≠ given.prbs ∧ s.part.settings.active.scanRun = false ∨ given = off →
        exec (.testEnablesWrite w ln) s = .next { s with part := taken (staged q given) given })

/-! ## Records and counters cleared -/

/-- R27, R35, R159: the clears of the setting error record, the reject record and each counter; whatever value is
written, the rest of the part is as it was. The two byte cycles of a word in 8-bit mode are one command, and MA shows 0
(the model's choices: log 6, log 16). -/
def Obligations.RecordsAndCountersCleared : Prop :=
  ∀ (s : State) (w : Word), s.part.pins.resetN = true →
    let q := s.part.withheld
    exec (.errorRecordClear w) s =
      .next { s with part := { q with settings := { q.settings with
        error := { kind := .none, offset := 0, count := 0 } } } } ∧
    exec (.rejectRecordClear w) s =
      .next { s with part := { q with roster := { q.roster with
        reject := { volunteer := none, reason := .none, phase := .commit, count := 0 } } } } ∧
    ∀ k : Fin 9,
      let cleared : Part :=
        match k with
        | 0 => { q with bus := { q.bus with requests := 0 } }
        | 1 => { q with engine := { q.engine with stale := 0 } }
        | 2 => { q with check := { q.check with corrupt := 0 } }
        | 3 => { q with check := { q.check with forced := 0 } }
        | 4 => { q with check := { q.check with notReady := 0 } }
        | 5 => { q with check := { q.check with silent := 0 } }
        | 6 => { q with check := { q.check with overruns := 0 } }
        | 7 => { q with check := { q.check with matched := 0 } }
        | 8 => { q with check := { q.check with mismatched := 0 } }
      exec (.counterClear k w) s = .next { s with part := cleared }

/-! ## The roster (chapter 3) -/

/-- R31: a roster word replaces the volunteer's staged word of its index, and changes nothing else. The two byte
cycles of a word in 8-bit mode are one command (the model's choice: log 6). -/
def Obligations.RosterWordStaged : Prop :=
  ∀ (s : State) (v : VolunteerIx) (k : Fin 3) (w : Word), s.part.pins.resetN = true → Memory.wf s.part.mem = true →
    ∃ q, s.part.forwarded q (0x0800 + 4 * v.val + k.val) w ∧
      let e := q.roster.entries[v]
      let staged : RosterEntry :=
        match k with
        | 0 => { e with staged0 := w }
        | 1 => { e with staged1 := w }
        | 2 => { e with staged2 := w }
      exec (.rosterWordWrite v k w) s =
        .next { s with part := { q with roster := { q.roster with entries := q.roster.entries.set v staged } } }

/-- R32 to R34, R37, R38: a commit is checked in the order of R33's table; a reject is recorded and leaves shadow and
pending slot; a valid commit waits in the pending slot of an engaged volunteer, and for a FREE one replaces the
shadow, home availability becoming ON where the seat identity changed, and an offer round follows (R126). Where it
ends a hold, `settle` puts the attempt after the work (the model's reading: log 9). The two byte cycles of a word in
8-bit mode are one command (the model's choice: log 6). -/
def Obligations.CommitJudged : Prop :=
  ∀ (s : State) (v : VolunteerIx) (w : Word) (ln : Lines), s.part.pins.resetN = true → Memory.wf s.part.mem = true →
    s.part.holdStands → ∃ q, (s.part.withLines ln).forwarded q (0x0800 + 4 * v.val + 3) w ∧
      let e := s.part.roster.entries[v]
      let r := recordOf e.staged0 e.staged1 e.staged2 w
      let taken := ∃ x : VolunteerIx, x ≠ v ∧ s.part.roster.entries[x].shadow.present = true ∧
        s.part.roster.entries[x].shadow.unit = r.unit ∧ s.part.roster.entries[x].shadow.seat = r.seat
      let unitOut := r.unit = 0 ∨ 160 < r.unit
      let rejected (why : RejectReason) :=
        exec (.rosterCommit v w ln) s = .next { s with part := q.rejectKept v why .commit }
      let entry (x : RosterEntry) : Part :=
        { q with roster := { q.roster with entries := q.roster.entries.set v x } }
      (r.present = true →
        (unitOut → rejected .unitRange) ∧
        (¬unitOut → 7 < r.station → rejected .stationRange) ∧
        (¬unitOut → r.station ≤ 7 → r.tier = 0 → rejected .tierRange) ∧
        (¬unitOut → r.station ≤ 7 → r.tier ≠ 0 → r.roles = 0 → rejected .noRole) ∧
        (¬unitOut → r.station ≤ 7 → r.tier ≠ 0 → r.roles ≠ 0 → taken → rejected .seatTaken)) ∧
      (r.present = false ∨ ¬unitOut ∧ r.station ≤ 7 ∧ r.tier ≠ 0 ∧ r.roles ≠ 0 ∧ ¬taken →
        (s.part.engagement v ≠ .free →
          exec (.rosterCommit v w ln) s = .next { s with part := entry { e with pendingRecord := some r } }) ∧
        (s.part.engagement v = .free →
          let shadow := if r.present then r else Record.absent
          exec (.rosterCommit v w ln) s =
            .next { s with part := (entry
              { e with shadow := shadow
                       home := if shadow.identity = e.shadow.identity then e.home else true }).round.settle }))

/-- Chapter 11. The roster record of four words (R30, R32); the seat message word of a packet (R171); the check word
(R87): its register, its worked value, and that a word run with its own check ends at 0; and every word of the board map
live (R45, R69, R94, R118, R119, R125, R156), each field at its bits, every other bit 0, and a word not assigned 0 (R6,
R170). The turnaround of a test burst shows as TEST-SENDING (the model's reading: log 18). -/
def Obligations.FieldLayouts : Prop :=
  (∀ (w0 w1 w2 w3 : Word),
    let r := recordOf w0 w1 w2 w3
    r.unit = w0.toNat % 256 ∧ (r.seat = .b ↔ w0.getLsbD 8 = true) ∧ r.station = w1.toNat % 16 ∧
      r.tier = w1.toNat / 16 % 4 ∧ r.aid = w1.getLsbD 8 ∧ (∀ i < 6, r.roles.getLsbD i = w2.getLsbD i) ∧
      r.present = w3.getLsbD 0 ∧ r.onCall = w3.getLsbD 1) ∧
  (∀ x : SeatState,
    let toggle := x.toggle.toNat
    (x.current = none → x.packetWord = packed [(2, 1, toggle)]) ∧
    (∀ c, x.current = some ⟨.standDown, c⟩ → x.packetWord = packed [(0, 2, 2), (2, 1, toggle)]) ∧
    ∀ a c, x.current = some ⟨.alert a, c⟩ →
      x.packetWord = packed [(0, 2, 1), (2, 1, toggle), (4, 2, a.slot.val), (6, 4, a.generation.toNat),
                             (10, 3, a.station), (13, 2, a.priority)]) ∧
  (let taken (reg : Word) (b : Bool) : Word := if reg.getLsbD 15 ^^ b then (reg <<< 1) ^^^ 0x1021 else reg <<< 1
   let bits (w : Word) : List Bool := (List.range 16).map fun i => w.getLsbD (15 - i)
   checkWord [0x0000] = 0x1D0F ∧
   ∀ ws : List Word, checkWord ws = (ws.flatMap bits).foldl taken 0xFFFF ∧ checkWord (ws ++ [checkWord ws]) = 0) ∧
  ∀ p : Part,
    let shows (off : Nat) (fields : List (Nat × Nat × Nat)) : Prop := p.liveWord (off - 0x2000) = packed fields
    let x := p.bus.staging
    let scan := p.scan
    let last (e : Option Bool) : Nat :=
      match e with
      | none => 0
      | some false => 1
      | some true => 2
    -- staging block
    (shows 0x2000 [(0, 4, x.slot.toNat), (4, 4, x.generation.toNat)] ∧
      shows 0x2001 [(0, 16, x.tag.toNat)] ∧
      shows 0x2002 [(0, 4, x.station.toNat), (4, 4, x.priority.toNat), (8, 4, x.startStage.toNat)] ∧
      shows 0x2003 [(0, 4, x.quotas[0].toNat), (4, 4, x.quotas[1].toNat), (8, 4, x.quotas[2].toNat),
                    (12, 4, x.quotas[3].toNat)] ∧
      shows 0x2004 [(0, 4, x.quotas[4].toNat), (4, 4, x.quotas[5].toNat), (8, 6, x.cap.toNat)] ∧
      shows 0x2005 [(0, 8, x.volunteer.toNat), (8, 4, x.eta.toNat)] ∧
      shows 0x2007 [(0, 16, x.action.toNat)]) ∧
    -- result block
    (let code : Nat :=
       match p.bus.result.code with
       | .none => 0
       | .done => 1
       | .refusedFull => 2
       | .refusedInvalid => 3
       | .refusedStale => 4
       | .refusedState => 5
       | .refusedLinkStopped => 6
       | .refusedUnknown => 7
     (p.bus.result.assigned = none → shows 0x2010 [(0, 4, code)]) ∧
     (∀ k g, p.bus.result.assigned = some (k, g) →
       shows 0x2010 [(0, 4, code), (7, 1, 1), (8, 2, k.val), (12, 4, g.toNat)]) ∧
     shows 0x2011 [(0, 16, p.bus.result.action.toNat)]) ∧
    -- engine status words
    (let straps := p.bus.straps
     let region := if straps.addr20 then straps.base.toNat else straps.base.toNat % (if straps.data8 then 2 else 4)
     let phase : Nat :=
       match scan.phase with
       | .stopped => 0
       | .retryWait _ => 1
       | .channelWait => 2
       | .cycling => 3
       | .holding => 4
     let test : Nat :=
       match p.check.test with
       | .idle => 0
       | .retryWait => 1
       | .channelWait _ => 2
       | .sending _ => 3
       | .turnaround => 3
       | .listening _ _ => 4
     let stopPending := p.settings.active.scanRun && !p.settings.staged.scanRun
     let inFlight : Bool :=
       match scan.radio with
       | .packet _ => true
       | .turnaround => true
       | .window _ _ => true
       | _ => false
     shows 0x2020 [(0, 1, straps.addr20.toNat), (1, 1, straps.data8.toNat), (4, 4, straps.base.toNat), (8, 4, region)] ∧
     shows 0x2021 [(0, 3, phase), (3, 1, if scan.phase = .retryWait .noUnits then 1 else 0),
                   (4, 1, p.settings.active.scanRun.toNat), (5, 1, stopPending.toNat), (6, 1, scan.episode.toNat),
                   (7, 1, if p.settings.staged.link = p.settings.active.link then 0 else 1),
                   (8, 1, scan.changeFound.toNat), (11, 1, p.check.episode.toNat), (12, 3, test)] ∧
     shows 0x2022 [(0, 16, scan.cycle.toNat)] ∧
     shows 0x2023 [(0, 16, scan.lastHead.toNat)] ∧
     (scan.slotShown = none → shows 0x2024 [(15, 1, inFlight.toNat)]) ∧
     (∀ u, scan.slotShown = some (u, .regular) → shows 0x2024 [(0, 8, u.val + 1), (8, 2, 1), (15, 1, inFlight.toNat)]) ∧
     (∀ u, scan.slotShown = some (u, .urgent) → shows 0x2024 [(0, 8, u.val + 1), (8, 2, 2), (15, 1, inFlight.toNat)]) ∧
     shows 0x2025 [(0, 8, scan.passPos.val + 1), (8, 8, scan.urgent.length)]) ∧
    (let age (j : Nat) : Nat :=
       match p.engine.age[j]? with
       | some k => k.val
       | none => 0
     let state (k : Slot) : Nat :=
       match p.engine.incidents[k].state with
       | .free => 0
       | .calling => 1
       | .complete => 2
       | .short => 3
     let kind : Nat :=
       match p.settings.error.kind with
       | .none => 0
       | .outOfRange => 1
       | .testBoth => 2
       | .testWhileScanning => 3
       | .stopRefused => 4
       | .bytePair => 5
     let rejected : Nat :=
       match p.roster.reject.volunteer with
       | some v => v.val + 1
       | none => 0
     let reason : Nat :=
       match p.roster.reject.reason with
       | .none => 0
       | .unitRange => 1
       | .stationRange => 2
       | .tierRange => 3
       | .noRole => 4
       | .seatTaken => 5
     shows 0x2026 [(0, 16, p.engine.openCounter.toNat)] ∧
     shows 0x2027 [(0, 3, (List.finRange 4).countP fun k => p.engine.incidents[k].state ≠ .free),
                   (4, 3, p.engine.age.length), (8, 2, age 0), (10, 2, age 1), (12, 2, age 2), (14, 2, age 3)] ∧
     shows 0x2028 [(0, 2, state 0), (2, 2, state 1), (4, 2, state 2), (6, 2, state 3)] ∧
     shows 0x2029 [(0, 4, kind)] ∧
     shows 0x202A [(0, 16, p.settings.error.offset)] ∧
     shows 0x202B [(0, 8, p.settings.error.count)] ∧
     shows 0x202C [(0, 8, rejected), (8, 4, reason), (12, 1, if p.roster.reject.phase = .application then 1 else 0)] ∧
     shows 0x202D [(0, 8, p.roster.reject.count)]) ∧
    -- counter and notify words
    (shows 0x2030 [(0, 16, p.bus.requests.toNat)] ∧ shows 0x2031 [(0, 16, p.engine.stale)] ∧
      shows 0x2032 [(0, 16, p.check.corrupt)] ∧ shows 0x2033 [(0, 8, p.check.forced)] ∧
      shows 0x2034 [(0, 8, p.check.notReady)] ∧ shows 0x2035 [(0, 8, p.check.silent)] ∧
      shows 0x2036 [(0, 8, p.check.overruns)] ∧ shows 0x2037 [(0, 16, p.check.matched)] ∧
      shows 0x2038 [(0, 16, p.check.mismatched)] ∧
      shows 0x203C [(0, 8, p.notify.a.status.toNat)] ∧ shows 0x203D [(0, 8, p.notify.a.enables.toNat)] ∧
      shows 0x203E [(0, 8, p.notify.b.status.toNat)] ∧ shows 0x203F [(0, 8, p.notify.b.enables.toNat)]) ∧
    -- incident blocks
    (∀ k : Slot,
      let i := p.engine.incidents[k]
      let word (j : Nat) (fields : List (Nat × Nat × Nat)) : Prop := p.blockWord (.incident k) j = packed fields
      let state : Nat :=
        match i.state with
        | .free => 0
        | .calling => 1
        | .complete => 2
        | .short => 3
      let assignment (a : Assignment) : Nat :=
        match a with
        | .role r => r.val + 1
        | .extra => 7
      (∀ j < 64, p.liveWord (0x080 + 64 * k.val + j) = p.blockWord (.incident k) j) ∧
      word 0 [(0, 2, state), (2, 3, i.stage), (5, 1, i.testScale.toNat), (6, 2, i.priority), (8, 4, i.generation.toNat),
              (12, 3, i.station), (15, 1, i.timer.isSome.toNat)] ∧
      word 1 [(0, 16, i.tag.toNat)] ∧ word 2 [(0, 16, i.openNumber.toNat)] ∧
      (∀ j : Fin 4, word (3 + j.val) [(0, 16, i.durations[j])]) ∧
      (i.timer = none → word 7 []) ∧ (∀ n, i.timer = some n → word 7 [(0, 16, n)]) ∧
      (∀ r : RoleIx, word (8 + r.val) [(0, 4, i.quotas[r]), (8, 5, i.tallies[r])]) ∧
      word 14 [(0, 5, i.cap), (5, 5, i.extras), (10, 5, i.attendees.length)] ∧
      word 15 [(0, 8, i.offers), (8, 8, i.declines)] ∧ word 16 [(0, 8, i.turnedBack), (8, 8, i.unreachable)] ∧
      (k ∉ p.engine.age → word 17 []) ∧
      (∀ before after, p.engine.age = before ++ k :: after → k ∉ before → word 17 [(0, 3, before.length + 1)]) ∧
      (∀ j, 18 ≤ j → j < 33 → word j []) ∧
      (∀ n a, n < 31 → i.attendees[n]? = some a →
        word (33 + n) [(0, 8, a.volunteer.val + 1), (8, 3, assignment a.assignment), (12, 2, a.eta)]) ∧
      ∀ n, n < 31 → i.attendees[n]? = none → word (33 + n) []) ∧
    -- volunteer live entries
    (∀ v : VolunteerIx,
      let e := p.roster.entries[v]
      let r := e.shadow
      let own := p.engine.standing[v]
      let generation (k : Slot) : Nat := p.engine.incidents[k].generation.toNat
      let word (engaged : List (Nat × Nat × Nat)) : Prop :=
        shows (0x2201 + 2 * v.val) (engaged ++ [(12, 1, own.declined[0].toNat), (13, 1, own.declined[1].toNat),
                                                (14, 1, own.declined[2].toNat), (15, 1, own.declined[3].toNat)])
      (∀ callable : Bool, (callable = true ↔ r.present = true ∧ r.onCall = true ∧ e.home = true ∧
          ∃ u : UnitIx, r.unit = u.val + 1 ∧ p.units[u].link ≠ .disabled) →
        shows (0x2200 + 2 * v.val)
          [(0, 8, r.unit), (8, 1, if r.seat = .b then 1 else 0), (9, 1, r.onCall.toNat), (10, 1, e.home.toNat),
           (11, 1, callable.toNat), (12, 1, e.pendingRecord.isSome.toNat), (15, 1, r.present.toNat)]) ∧
      (own.engagement = .free → word []) ∧
      (∀ k, own.engagement = .offered k → word [(0, 4, 8), (4, 2, k.val), (8, 4, generation k)]) ∧
      ∀ k before a after, own.engagement = .attending k → p.engine.incidents[k].attendees = before ++ a :: after →
        a.volunteer = v → (∀ y ∈ before, y.volunteer ≠ v) →
        (∀ role, a.assignment = .role role →
          word [(0, 4, role.val + 1), (4, 2, k.val), (6, 2, a.eta), (8, 4, generation k)]) ∧
        (a.assignment = .extra → word [(0, 4, 7), (4, 2, k.val), (6, 2, a.eta), (8, 4, generation k)])) ∧
    -- unit live blocks
    (∀ u : UnitIx,
      let e := p.units[u]
      let word (j : Nat) (fields : List (Nat × Nat × Nat)) : Prop := p.blockWord (.unit u) j = packed fields
      let link : Nat :=
        match e.link with
        | .disabled => 0
        | .unknown => 1
        | .present => 2
        | .silent => 3
      let inquiry : Nat :=
        match e.inquiry.state with
        | .idle => 0
        | .pending => 1
        | .sent => 2
        | .done => 3
        | .failed => 4
      let waiting : Nat :=
        match e.waiting with
        | some c => c.toNat
        | none => 0
      let seat (y : SeatState) : List (Nat × Nat × Nat) :=
        match y.current with
        | none => [(4, 1, y.toggle.toNat)]
        | some ⟨.standDown, c⟩ => [(0, 2, 2), (2, 2, if c then 2 else 1), (4, 1, y.toggle.toNat)]
        | some ⟨.alert a, c⟩ =>
          [(0, 2, 1), (2, 2, if c then 2 else 1), (4, 1, y.toggle.toNat), (5, 2, a.slot.val),
           (7, 4, a.generation.toNat), (11, 3, a.station), (14, 2, a.priority)]
      let holder (at' : Nat) (y : SeatState) : List (Nat × Nat × Nat) :=
        match y.holder with
        | some (.alert a) => [(at', 4, a.generation.toNat), (at' + 4, 2, a.slot.val), (at' + 6, 2, last y.lastEvent)]
        | some .standDown => [(at', 4, 2), (at' + 4, 2, last y.lastEvent), (at' + 6, 2, 3)]
        | none => [(at', 4, 0), (at' + 4, 2, last y.lastEvent), (at' + 6, 2, 3)]
      (∀ j < 8, p.liveWord (0x400 + 8 * u.val + j) = p.blockWord (.unit u) j) ∧
      word 0 [(0, 1, if e.link = .disabled then 0 else 1), (1, 1, e.stagedEnable.toNat), (2, 2, link),
              (4, 4, e.misses), (8, 1, if u ∈ scan.urgent then 1 else 0)] ∧
      word 1 [(0, 4, e.flags.toNat), (4, 4, e.watch.toNat), (8, 1, e.changed.toNat), (9, 1, e.echo.toNat)] ∧
      word 2 (seat e.seatA) ∧ word 3 (seat e.seatB) ∧ word 4 (holder 0 e.seatA ++ holder 8 e.seatB) ∧
      word 5 [(0, 3, inquiry), (4, 4, e.inquiry.code.toNat), (8, 4, waiting)] ∧
      word 6 [(0, 16, e.inquiry.result1.toNat)] ∧ word 7 [(0, 16, e.inquiry.result2.toNat)]) ∧
    -- words not assigned
    ∀ k < 4096, ¬boardAssigned k → p.liveWord k = 0

/-- R40: what the Roster Table does with the pending slot of a volunteer made FREE. -/
def Obligations.PendingRecordAtRelease : Prop :=
  ∀ (p : Part) (v : VolunteerIx),
    let e := p.roster.entries[v]
    let entry (x : RosterEntry) : Part := { p with roster := { p.roster with entries := p.roster.entries.set v x } }
    (e.pendingRecord = none → p.actOnPending v = p) ∧
    ∀ r, e.pendingRecord = some r →
      let taken := ∃ x : VolunteerIx, x ≠ v ∧ p.roster.entries[x].shadow.present = true ∧
        p.roster.entries[x].shadow.unit = r.unit ∧ p.roster.entries[x].shadow.seat = r.seat
      let shadow := if r.present then r else Record.absent
      (r.present = true → taken →
        p.actOnPending v = (entry { e with pendingRecord := none }).rejectKept v .seatTaken .application) ∧
      (r.present = false ∨ ¬taken →
        p.actOnPending v =
          entry { e with pendingRecord := none
                         shadow := shadow
                         home := if shadow.identity = e.shadow.identity then e.home else true })

/-! ## Units and seats (chapter 4) -/

/-- R47 to R49: unit word 0 replaces the watch mask and the staged enable, and while the link is stopped the active
enable takes the staged value at once. The premise on the urgent list is R81's law. The two byte cycles of a word in
8-bit mode are one command (the model's choice: log 6). -/
def Obligations.UnitWord0Taken : Prop :=
  ∀ (s : State) (u : UnitIx) (w : Word), s.part.pins.resetN = true → Memory.wf s.part.mem = true → s.part.urgentLaw →
    ∃ q, s.part.forwarded q (0x1000 + 2 * u.val) w ∧
      let e := s.part.units[u]
      let written : Part :=
        { q with units := q.units.set u { e with watch := w.setWidth 4, stagedEnable := w.getLsbD 15 } }
      exec (.unitWord0Write u w) s =
        .next { s with part := if s.part.settings.active.scanRun then written else written.takeEnable u }

/-- R50, R51, R148: what a unit's active enable does on taking its staged value, with the report to the Callout
Engine: an offer round on an enable; on a disable the offers of the volunteers seated at the unit are withdrawn
without a message, their pending slots are acted on, and a round follows where anyone became FREE (R126; the model's
reading: log 8). All staged enables are taken in ascending unit number (R49). -/
def Obligations.EnableTaken : Prop :=
  (∀ (p : Part) (u : UnitIx), p.urgentLaw → (p.units[u]).law →
    let e := p.units[u]
    (e.stagedEnable = decide (e.link ≠ .disabled) → p.takeEnable u = p) ∧
    (e.stagedEnable = true → e.link = .disabled →
      let fresh : UnitEntry :=
        { e with link := .unknown, misses := 0, flags := 0, changed := false, echo := false,
                 seatA := { e.seatA with lastEvent := none }, seatB := { e.seatB with lastEvent := none } }
      p.takeEnable u = (Part.round { p with units := p.units.set u fresh })) ∧
    (e.stagedEnable = false → e.link ≠ .disabled →
      let asked := e.inquiry.state = .pending ∨ e.inquiry.state = .sent
      let silenced : UnitEntry :=
        { e with link := .disabled, echo := false, changed := false, waiting := none,
                 seatA := { e.seatA with current := none, holder := none },
                 seatB := { e.seatB with current := none, holder := none },
                 inquiry := { e.inquiry with state := if asked then .failed else e.inquiry.state } }
      let disabled : Part :=
        { p with units := p.units.set u silenced
                 scan := { p.scan with urgent := p.scan.urgent.filter fun x => x ≠ u } }
      let offered (v : VolunteerIx) : Bool :=
        (p.shadow v).present && (p.shadow v).unit == u.val + 1 &&
          (List.finRange 4).any fun k => p.engagement v == .offered k
      let freed := (List.finRange 240).filter offered
      let withdrawn := freed.foldl Part.actOnPending (freed.foldl Part.setFree disabled)
      p.takeEnable u = if freed = [] then withdrawn else withdrawn.round)) ∧
  ∀ p : Part, p.takeEnables = (List.finRange 160).foldl Part.takeEnable p

/-- R60, R81: after a change of one unit's entry the urgent list holds the unit exactly when it is enabled with a seat
UNCONFIRMED or its echo flag set; a join goes to the end, a leave keeps the order of the others, a unit that stays
keeps its place. -/
def Obligations.UrgentListFollowsUnit : Prop :=
  ∀ (p : Part) (u : UnitIx) (f : UnitEntry → UnitEntry), p.urgentLaw →
    let e := f p.units[u]
    let waits (x : SeatState) : Prop := ∃ m, x.current = some { message := m, confirmed := false }
    let wanted := e.link ≠ .disabled ∧ (waits e.seatA ∨ waits e.seatB ∨ e.echo = true)
    (p.onUnit u f).urgentLaw ∧
    (u ∈ (p.onUnit u f).scan.urgent ↔ wanted) ∧
    (wanted → u ∈ p.scan.urgent → p.onUnit u f = { p with units := p.units.set u e }) ∧
    (wanted → u ∉ p.scan.urgent →
      p.onUnit u f = { p with units := p.units.set u e, scan := { p.scan with urgent := p.scan.urgent ++ [u] } }) ∧
    (¬wanted → u ∉ p.scan.urgent → p.onUnit u f = { p with units := p.units.set u e }) ∧
    (¬wanted → ∀ before after, p.scan.urgent = before ++ u :: after →
      p.onUnit u f = { p with units := p.units.set u e, scan := { p.scan with urgent := before ++ after } })

/-- R64: unit word 1 by its code: 0 nothing, 1 to 5 a new inquiry by the table, 6 to 15 OUT-OF-RANGE with the region
offset of the word. The two byte cycles of a word in 8-bit mode are one command (the model's choice: log 6). -/
def Obligations.InquiryWritten : Prop :=
  ∀ (s : State) (u : UnitIx) (w : Word), s.part.pins.resetN = true → Memory.wf s.part.mem = true → s.part.urgentLaw →
    ∃ q, s.part.forwarded q (0x1000 + 2 * u.val + 1) w ∧
      let e := s.part.units[u]
      let code : BitVec 4 := w.setWidth 4
      let entry (x : UnitEntry) : Part := { q with units := q.units.set u x }
      let asked (state : InquiryState) : Inquiry := { state := state, code := code, result1 := 0, result2 := 0 }
      let taken : UnitEntry :=
        if e.link = .disabled then { e with inquiry := asked .failed }
        else if e.inquiry.state = .sent then { e with waiting := some code }
        else { e with inquiry := asked .pending }
      (code = 0 → exec (.inquiryWrite u w) s = .next { s with part := q }) ∧
      (5 < code.toNat →
        exec (.inquiryWrite u w) s = .next { s with part := q.errorKept .outOfRange (0x1000 + 2 * u.val + 1) }) ∧
      (1 ≤ code.toNat → code.toNat ≤ 5 →
        exec (.inquiryWrite u w) s =
          .next { s with part := entry taken })

/-- R51, R57, R58, R90: a message set for a seat is dropped for a DISABLED unit, waits in the holder while the unit's
slot is in flight, and is installed otherwise, UNCONFIRMED with a fresh toggle. A message for an enabled unit ends a
hold: its guard timer stops here, and the attempt follows the event's own work (the model's reading: log 9). -/
def Obligations.MessageSet : Prop :=
  ∀ (p : Part) (u : UnitIx) (x : Seat) (m : Message),
    let e := p.units[u]
    let held : Bool := p.slotInFlight && p.scan.slotShown.map (·.1) == some u
    let seat (y : SeatState) : SeatState :=
      if held then { y with holder := some m }
      else { y with current := some { message := m, confirmed := false }, toggle := !y.toggle }
    (e.link = .disabled → p.setMessage u x m = p) ∧
    (e.link ≠ .disabled →
      let set := p.onUnit u fun e =>
        match x with
        | .a => { e with seatA := seat e.seatA }
        | .b => { e with seatB := seat e.seatB }
      p.setMessage u x m =
        { set with scan := { set.scan with
          guardTimer := if p.scan.phase = .holding then none else p.scan.guardTimer } })

/-- R85, R86: the reply is complete. A good one ends the slot: the Unit Table acts in R52's order (steps 1 to 5, the
seat events, A before B, and the round of a return), and the slot boundary follows. A faulty one leaves the slot to
the window's close. At the close, a miss for the unit and a boundary; the corrupt counter advances where the reply's
check failed or the reply is truncated. -/
def Obligations.SlotOutcome : Prop :=
  (∀ (s : State) (r : Reply) (ln : Lines) (ticks : Nat) (u : UnitIx) (k : SlotKind),
    s.part.scan.radio = .window ticks .started → s.part.scan.slotShown = some (u, k) →
    let p := s.part.withLines ln
    let heard (h : Heard) : Part := { p with scan := { p.scan with radio := .window ticks h } }
    let checks := checkWord [r.addressStatus, r.eventA, r.eventB, r.result1, r.result2] = r.check
    let own := r.addressStatus.toNat % 256 = u.val + 1
    (¬checks → exec (.replyComplete r ln) s = .next { s with part := heard .corrupt }) ∧
    (checks → ¬own → exec (.replyComplete r ln) s = .next { s with part := heard .wrongAddress }) ∧
    (checks → own →
      let steps := Part.goodReply { p with scan := { p.scan with radio := .quiet } } u r
      let events := (steps.judgeEvent u .a r.eventA).judgeEvent u .b r.eventB
      exec (.replyComplete r ln) s =
        .next { s with part := (if s.part.units[u].link = .silent then events.round else events).boundary })) ∧
  ∀ (s : State) (ln : Lines) (ticks : Nat) (heard : Heard) (u : UnitIx) (k : SlotKind),
    s.part.scan.radio = .window ticks heard → s.part.scan.slotShown = some (u, k) →
    let p := s.part.withLines ln
    let counted : LinkCheck :=
      { p.check with corrupt := if heard = .corrupt ∨ heard = .started then
                                  (if p.check.corrupt < 65535 then p.check.corrupt + 1 else p.check.corrupt)
                                else p.check.corrupt }
    exec (.replyWindowClose ln) s =
      .next { s with part := (Part.miss { p with check := counted, scan := { p.scan with radio := .quiet } } u).boundary }

/-- Steps 1 to 5 of R52 on a good reply: link state and miss count (R53), flags and CHANGED (R55, R56), confirmations
(R59), held messages (R58), the inquiry and a waiting code (R65, R66); the urgent list is judged after the
confirmations and after the installations (R60). -/
def Obligations.GoodReplySteps : Prop :=
  ∀ (p : Part) (u : UnitIx) (r : Reply), p.urgentLaw → p.units[u].link ≠ .disabled →
    let e := p.units[u]
    let flags : BitVec 4 := (r.addressStatus >>> 8).setWidth 4
    let changed : Bool := (e.flags ^^^ flags) &&& e.watch ≠ 0
    let confirm (x : SeatState) (echo : Bool) : SeatState :=
      match x.current with
      | some ⟨.alert a, false⟩ => if echo = x.toggle then { x with current := some ⟨.alert a, true⟩ } else x
      | some ⟨.standDown, false⟩ => if echo = x.toggle then { x with current := none } else x
      | _ => x
    let install (x : SeatState) : SeatState :=
      match x.holder with
      | some m => { x with current := some ⟨m, false⟩, toggle := !x.toggle, holder := none }
      | none => x
    let e3 : UnitEntry :=
      { e with misses := 0, link := .present, changed := changed, flags := flags,
               seatA := confirm e.seatA (r.eventA.getLsbD 15), seatB := confirm e.seatB (r.eventB.getLsbD 15) }
    let e5 : UnitEntry :=
      { e3 with seatA := install e3.seatA, seatB := install e3.seatB, waiting := none,
                inquiry := match e.waiting with
                           | some c => { state := .pending, code := c, result1 := 0, result2 := 0 }
                           | none => if e.inquiry.state = .sent then
                                       { e.inquiry with state := .done, result1 := r.result1, result2 := r.result2 }
                                     else e.inquiry }
    let q : Part :=
      { p with
        units := p.units.set u e5
        scan := { p.scan with changeSeen := p.scan.changeSeen || changed,
                              urgent := judgeUrgent (judgeUrgent p.scan.urgent u e3.urgent) u e5.urgent } }
    let returned := if e.link = .silent then q.report .unitReturn else q
    p.goodReply u r = if changed then returned.report .changeNow else returned

/-- Steps 1 to 5 of R52 on a miss: the miss count, and SILENT at the threshold with its latch, count and failed
inquiry (R54); CHANGED cleared (R55); held messages (R58); an inquiry in flight PENDING again, and a waiting code
(R65, R66). -/
def Obligations.MissSteps : Prop :=
  ∀ (p : Part) (u : UnitIx), p.urgentLaw → p.units[u].link ≠ .disabled →
    let e := p.units[u]
    let misses := if e.misses < 15 then e.misses + 1 else e.misses
    let falls := e.link ≠ .silent ∧ p.settings.active.silentThreshold ≤ misses
    let install (x : SeatState) : SeatState :=
      match x.holder with
      | some m => { x with current := some ⟨m, false⟩, toggle := !x.toggle, holder := none }
      | none => x
    let live := e.inquiry.state = .pending ∨ e.inquiry.state = .sent
    let e5 : UnitEntry :=
      { e with misses := misses, link := if falls then .silent else e.link, changed := false,
               seatA := install e.seatA, seatB := install e.seatB, waiting := none,
               inquiry := match e.waiting with
                          | some c => { state := .pending, code := c, result1 := 0, result2 := 0 }
                          | none => if falls ∧ live then { e.inquiry with state := .failed }
                                    else if e.inquiry.state = .sent then { e.inquiry with state := .pending }
                                    else e.inquiry }
    let q : Part :=
      { p with units := p.units.set u e5
               scan := { p.scan with urgent := judgeUrgent p.scan.urgent u e5.urgent } }
    (falls → p.miss u =
      (Part.report { q with check := { q.check with silent := if q.check.silent < 255 then q.check.silent + 1
                                                              else q.check.silent } } .unitSilent)) ∧
    (¬falls → p.miss u = q)

/-- R61 to R63, R172: a seat's event word is NONE, a repeat, or accepted; an accepted event is recorded, sets the echo
flag and is passed on for the volunteer at the seat, or counted stale where nobody sits there. -/
def Obligations.SeatEventJudged : Prop :=
  ∀ (p : Part) (u : UnitIx) (x : Seat) (w : Word), p.roster.law →
    let code := w.toNat % 8
    let slot : Slot := ⟨w.toNat / 64 % 4, by omega⟩
    let band := w.toNat / 16 % 4
    let eta := if band = 0 then 3 else band
    let generation : BitVec 4 := (w >>> 8).setWidth 4
    let last (e : UnitEntry) : Option Bool :=
      match x with
      | .a => e.seatA.lastEvent
      | .b => e.seatB.lastEvent
    (code = 0 ∨ 5 ≤ code → p.judgeEvent u x w = p) ∧
    (1 ≤ code → code ≤ 4 → last p.units[u] = some (w.getLsbD 3) →
      p.judgeEvent u x w = p.onUnit u fun e => { e with echo := true }) ∧
    (1 ≤ code → code ≤ 4 → last p.units[u] ≠ some (w.getLsbD 3) →
      let accepted := p.onUnit u fun e =>
        match x with
        | .a => { e with echo := true, seatA := { e.seatA with lastEvent := some (w.getLsbD 3) } }
        | .b => { e with echo := true, seatB := { e.seatB with lastEvent := some (w.getLsbD 3) } }
      (∀ v : VolunteerIx, (p.shadow v).present = true → (p.shadow v).unit = u.val + 1 → (p.shadow v).seat = x →
        p.judgeEvent u x w =
          if code = 1 then accepted.takeAttend v eta slot generation
          else if code = 2 then accepted.takeDecline v slot generation
          else if code = 3 then accepted.takeAvailOff v
          else accepted.takeAvailOn v) ∧
      ((∀ v : VolunteerIx, (p.shadow v).present = true → (p.shadow v).unit = u.val + 1 → (p.shadow v).seat ≠ x) →
        p.judgeEvent u x w = accepted.staleKept))

/-! ## The scan cycle (chapter 5) -/

/-- R72 to R75: an attempt makes the staged settings and enables active; then no enabled unit, a failed ready check, a
busy channel, or the cycle start. RDY and CD are read under the active masks. -/
def Obligations.AttemptMade : Prop :=
  ∀ p : Part,
    let q := Part.takeEnables
      { p with settings := { p.settings with active := { p.settings.active with link := p.settings.staged.link } } }
    let l := q.settings.active.link
    let someEnabled := ∃ u : UnitIx, q.units[u].link ≠ .disabled
    let ready := q.pins.rdy = true ∨ l.readyMask = true
    let busy := q.pins.cd = true ∧ l.carrierMask = false
    let scan (f : Scan → Scan) : Part := { q with scan := f q.scan }
    (¬someEnabled →
      p.attempt = scan fun x =>
        { x with phase := .retryWait .noUnits, retryTimer := true, lbtTimer := none, guardTimer := none }) ∧
    (someEnabled → ¬ready →
      let failed := scan fun x =>
        { x with phase := .retryWait .notReady, retryTimer := true, lbtTimer := none, guardTimer := none,
                 episode := true }
      p.attempt =
        if q.scan.episode then failed
        else Part.report
          { failed with check := { q.check with notReady := if q.check.notReady < 255 then q.check.notReady + 1
                                                            else q.check.notReady } } .radioTrouble) ∧
    (someEnabled → ready → busy →
      p.attempt = scan fun x =>
        { x with phase := .channelWait, lbtTimer := some l.lbtLimit, retryTimer := false, guardTimer := none,
                 episode := false }) ∧
    (someEnabled → ready → ¬busy → p.attempt = (scan fun x => { x with episode := false }).startCycle)

/-- R75 to R78: the cycle start with its head; and, before a chosen slot, a head exactly when a bit of the control
word has risen or fallen against the last head word under its trigger mask. Frames are held as whole words (the
model's choice: log 10). -/
def Obligations.HeadsSent : Prop :=
  (∀ p : Part,
    let begun : Part :=
      { p with scan := { p.scan with
          cycle := p.scan.cycle + 1, changeSeen := false, hadSlot := Vector.replicate 160 false,
          hadUrgent := Vector.replicate 160 false, passPos := 0, phase := .cycling, retryTimer := false,
          lbtTimer := none, guardTimer := none } }
    let sync := p.settings.active.link.syncWords.toList.take p.settings.active.link.syncCount
    p.startCycle =
      { begun with scan := { begun.scan with
          radio := .head (0x7E81 :: (sync ++ [begun.controlWord, checkWord (sync ++ [begun.controlWord])]))
            begun.controlWord none } }) ∧
  ∀ (p : Part) (u : UnitIx) (k : SlotKind),
    let l := p.settings.active.link
    let now (i : Nat) : Bool := p.controlWord.getLsbD i
    let last (i : Nat) : Bool := p.scan.lastHead.getLsbD i
    let triggers := ∃ i < 8, (now i = true ∧ last i = false ∧ l.rising.getLsbD i = true) ∨
      (now i = false ∧ last i = true ∧ l.falling.getLsbD i = true)
    let sync := l.syncWords.toList.take l.syncCount
    (triggers → p.giveSlot u k =
      { p with scan := { p.scan with
          radio := .head (0x7E81 :: (sync ++ [p.controlWord, checkWord (sync ++ [p.controlWord])])) p.controlWord
            (some (u, k)) } }) ∧
    (¬triggers → p.giveSlot u k = p.beginSlot u k)

/-- R77: each bit of the control word's low byte is the signal its select names; the high byte is the inverse. -/
def Obligations.ControlWordSignals : Prop :=
  ∀ (p : Part) (i : Nat), i < 8 →
    let l := p.settings.active.link
    let select := if i < 4 then l.selectsLow.toNat / 16 ^ i % 16 else l.selectsHigh.toNat / 16 ^ (i - 4) % 16
    let some' (f : Incident → Prop) : Prop :=
      ∃ k : Slot, p.engine.incidents[k].state ≠ .free ∧ f p.engine.incidents[k]
    let signal : Prop :=
      match select with
      | 0 => False
      | 1 => True
      | 2 => p.scan.cycle.toNat % 2 = 1
      | 3 => some' fun _ => True
      | 4 => some' fun x => x.state = .calling
      | 5 => some' fun x => x.priority = 1
      | 6 => some' fun x => x.stage = 4
      | 7 => some' fun x => x.testScale = true
      | k => some' fun x => x.station = k - 8
    (p.controlWord.getLsbD i = true ↔ signal) ∧ (p.controlWord.getLsbD (i + 8) = true ↔ ¬signal)

/-- R72 to R75, R90: the waits end. The retry timer makes an attempt; CD's fall starts the cycle; the
listen-before-talk timer starts it as a forced transmit; the hold guard makes an attempt with its overrun latched and
counted. What ends a hold stops its guard timer, and the attempt follows the event's own work (log 9); where no hold
was ended nothing follows. -/
def Obligations.WaitsEnd : Prop :=
  (∀ (s : State) (ln : Lines),
    (s.part.scan.retryTimer = true →
      exec (.retryTimerExpiry ln) s = .next { s with part := (s.part.withLines ln).attempt }) ∧
    (s.part.scan.lbtTimer ≠ none →
      let check := s.part.check
      exec .cdFall s =
        .next { s with part := Part.startCycle { s.part with pins := { s.part.pins with cd := false } } } ∧
      exec .lbtTimerExpiry s =
        .next { s with part := (Part.report
          { s.part with check := { check with forced := if check.forced < 255 then check.forced + 1 else check.forced } }
          .radioTrouble).startCycle }) ∧
    (s.part.scan.guardTimer ≠ none →
      let p := s.part.withLines ln
      exec (.holdGuardExpiry ln) s =
        .next { s with part := (Part.report
          { p with
            check := { p.check with overruns := if p.check.overruns < 255 then p.check.overruns + 1
                                                else p.check.overruns }
            scan := { p.scan with guardTimer := none } } .holdOverrun).attempt })) ∧
  ∀ p : Part,
    p.endHold = { p with scan := { p.scan with
      guardTimer := if p.scan.phase = .holding then none else p.scan.guardTimer } } ∧
    (p.scan.phase = .holding → p.scan.guardTimer = none → p.settle = p.attempt) ∧
    (p.holdStands → p.settle = p)

/-- R60, R65, R76, R79, R83: a head has been sent. Its control word is the last head word; the slot chosen before it
begins with its unit's packet, which clears the echo flag and sends a PENDING inquiry; after a cycle-start head comes
a boundary. The packet is built from the unit's entry as it stands (11.3). -/
def Obligations.FrameHeadEnded : Prop :=
  ∀ (s : State) (ln : Lines) (words : List Word) (control : Word) (next : Option (UnitIx × SlotKind)),
    s.part.scan.radio = .head words control next →
    let p := s.part.withLines ln
    let q : Part := { p with scan := { p.scan with lastHead := control, radio := .quiet } }
    (next = none → exec (.frameHeadEnd ln) s = .next { s with part := q.boundary }) ∧
    ∀ u k, next = some (u, k) →
      let e := p.units[u]
      let code := if e.inquiry.state = .pending then e.inquiry.code.toNat else 0
      let body : List Word :=
        [ BitVec.ofNat 16 (u.val + 1 + 0x5000), e.seatA.packetWord, e.seatB.packetWord,
          BitVec.ofNat 16 (lastEventCode e.seatA.lastEvent + 4 * lastEventCode e.seatB.lastEvent + 256 * code) ]
      let shown : Part :=
        { q with scan := { q.scan with slotShown := some (u, k)
                                       radio := .packet (0x7E42 :: (body ++ [checkWord body])) } }
      exec (.frameHeadEnd ln) s =
        .next { s with part := shown.onUnit u fun e =>
          { e with echo := false
                   inquiry := if e.inquiry.state = .pending then { e.inquiry with state := .sent } else e.inquiry } }

/-- R84, R85: the packet's end, the turnaround's end with the length of the reply window at the rate of R18, and the
start of the slot's reply. Nothing else changes. The length is held in sixths of a microsecond (the model's choice: log
7). -/
def Obligations.SlotTimes : Prop :=
  ∀ s : State,
    let radio (x : Radio) : State := { s with part := { s.part with scan := { s.part.scan with radio := x } } }
    let l := s.part.settings.active.link
    (∀ words, s.part.scan.radio = .packet words → exec .packetEnd s = .next (radio .turnaround)) ∧
    (s.part.scan.radio = .turnaround → l.rate ≤ 3 →
      exec .turnaroundEnd s =
        .next (radio (.window (112 * (6000000 / (1200 * 2 ^ l.rate)) + l.hopCount * l.hopDelay * 6000 + 5 * 6000)
          .nothing))) ∧
    ∀ ticks, s.part.scan.radio = .window ticks .nothing → exec .replyStart s = .next (radio (.window ticks .started))

/-- R75, R79: at a boundary the oldest urgent entry with no urgent slot this cycle is chosen, else the first member of
the regular pass from the pass position with no slot this cycle, else the cycle ends. The members, which R75 fixes at
the cycle start, are taken to be the units enabled now (the model's reading: log 13). -/
def Obligations.SlotChosen : Prop :=
  ∀ p : Part,
    let had (u : UnitIx) : Prop := p.scan.hadUrgent[u] = true
    let member (u : UnitIx) : Prop :=
      p.scan.passPos ≤ u ∧ p.units[u].link ≠ .disabled ∧ p.scan.hadSlot[u] = false
    (∀ before u after, p.scan.urgent = before ++ u :: after → (∀ x ∈ before, had x) → ¬had u →
      p.boundary = Part.giveSlot
        { p with scan := { p.scan with hadSlot := p.scan.hadSlot.set u true
                                       hadUrgent := p.scan.hadUrgent.set u true } } u .urgent) ∧
    ((∀ u ∈ p.scan.urgent, had u) →
      (∀ u, member u → (∀ x, member x → u ≤ x) →
        p.boundary = Part.giveSlot
          { p with scan := { p.scan with hadSlot := p.scan.hadSlot.set u true, passPos := u } } u .regular) ∧
      ((∀ u, ¬member u) → p.boundary = p.endCycle))

/-- R56, R88, R89: the cycle end: CHANGE-FOUND and its latch, CYCLE-END, a pending stop, the hold, or the next
attempt. -/
def Obligations.CycleEnded : Prop :=
  ∀ p : Part,
    let found : Part := { p with scan := { p.scan with changeFound := p.scan.changeSeen, radio := .quiet } }
    let marked := (if p.scan.changeSeen then found.report .changeCycle else found).report .cycleEnd
    let latched := p.scan.changeSeen = true ∧ p.notify.b.enables.getLsbD 3 = true
    let x := p.settings
    let pending := x.active.scanRun = true ∧ x.staged.scanRun = false
    let isOpen := ∃ k : Slot, p.engine.incidents[k].state ≠ .free
    let kept := marked.errorKept .stopRefused 0
    let refused : Part :=
      { kept with settings := { kept.settings with staged := { x.staged with scanRun := true } } }
    let goesOn := if pending then refused else marked
    let holds := x.active.link.holdEnable = true ∧ latched ∧
      (∀ k : Slot, p.engine.incidents[k].state ≠ .calling) ∧ p.scan.urgent = []
    (pending → ¬isOpen → p.endCycle = marked.stopLink) ∧
    (¬pending ∨ isOpen → holds →
      p.endCycle = { goesOn with scan := { goesOn.scan with
        phase := .holding
        guardTimer := some { seconds := x.active.link.holdGuard, scaled := x.active.testScale } } }) ∧
    (¬pending ∨ isOpen → ¬holds → p.endCycle = goesOn.attempt)

/-! ## Requests (chapters 6 and 7) -/

/-- R108, R109: OPEN. Refused by the first condition of the table that holds; otherwise the incident opens in the
lowest-numbered FREE slot, joins the age order, and an offer round runs. Whatever the result, a hold ends (R90). Where
it ends a hold, `settle` puts the attempt after the work (the model's reading: log 9). The two byte cycles of a word in
8-bit mode are one command, and MA shows 0 (the model's choices: log 6, log 16). -/
def Obligations.OpenJudged : Prop :=
  ∀ (s : State) (ln : Lines), s.part.pins.resetN = true →
    let p := (s.part.withLines ln).requestKept 1
    let g := s.part.bus.staging
    let x := s.part.settings.active
    let station := g.station.toNat
    let start := g.startStage.toNat
    let demand := (g.quotas.map BitVec.toNat).sum
    let duration (k : Nat) : Nat := x.durations[4 * station + (k - 1)]?.getD 0
    let invalid := 7 < station ∨ x.configured.getLsbD station = false ∨ g.priority.toNat = 0 ∨ 3 < g.priority.toNat ∨
      start = 0 ∨ 4 < start ∨ demand = 0 ∨ g.cap.toNat < demand ∨ 31 < g.cap.toNat ∨
      ∀ k, start ≤ k → k ≤ 4 → duration k = 0
    let isFree (k : Slot) : Prop := s.part.engine.incidents[k].state = .free
    let answers (q : Part) (code : ResultCode) (assigned : Option (Slot × BitVec 4)) : Prop :=
      exec (.openIncident ln) s = .next { s with part := (q.endHold.resultKept 1 code assigned).settle }
    (x.scanRun = false → answers p .refusedLinkStopped none) ∧
    (x.scanRun = true → invalid → answers p .refusedInvalid none) ∧
    (x.scanRun = true → ¬invalid → (∀ k, ¬isFree k) → answers p .refusedFull none) ∧
    (x.scanRun = true → ¬invalid → ∀ k, isFree k → (∀ j < k, ¬isFree j) →
      ∀ stage, start ≤ stage → stage ≤ 4 → duration stage ≠ 0 → (∀ j, start ≤ j → j < stage → duration j = 0) →
        let e := s.part.engine
        let opened : Incident :=
          { state := .calling, generation := e.incidents[k].generation + 1, tag := g.tag, station := station,
            priority := g.priority.toNat, openNumber := e.openCounter + 1,
            durations := #v[duration 1, duration 2, duration 3, duration 4], testScale := x.testScale, stage := stage,
            timer := some (duration stage), quotas := g.quotas.map BitVec.toNat, cap := g.cap.toNat,
            tallies := #v[0, 0, 0, 0, 0, 0], extras := 0, attendees := [], offers := 0, declines := 0, turnedBack := 0,
            unreachable := 0 }
        let q : Part :=
          { p with engine := { e with openCounter := e.openCounter + 1, age := e.age ++ [k],
                                      incidents := e.incidents.set k opened } }
        answers q.round .done (some (k, opened.generation)))

/-- R111, R112: AMEND. Refused by the first condition that holds; otherwise priority, quotas and cap are replaced, the
incident is judged, trimmed, and an offer round runs. Where it ends a hold, `settle` puts the attempt after the work
(the model's reading: log 9). The two byte cycles of a word in 8-bit mode are one command, and MA shows 0 (the model's
choices: log 6, log 16). -/
def Obligations.AmendJudged : Prop :=
  ∀ (s : State) (ln : Lines), s.part.pins.resetN = true →
    let p := (s.part.withLines ln).requestKept 2
    let g := s.part.bus.staging
    let quotas := g.quotas.map BitVec.toNat
    let answers (q : Part) (code : ResultCode) : Prop :=
      exec (.amend ln) s = .next { s with part := (q.resultKept 2 code none).settle }
    ((∀ k, ¬s.part.stagingNames k) → answers p .refusedStale) ∧
    ∀ k, s.part.stagingNames k →
      let i := s.part.engine.incidents[k]
      let floor := i.extras + ((List.finRange 6).map fun r => max i.tallies[r] quotas[r]).sum
      let invalid := g.priority.toNat = 0 ∨ 3 < g.priority.toNat ∨ quotas.sum = 0 ∨ 31 < g.cap.toNat ∨ g.cap.toNat < floor
      let j : Incident := { i with priority := g.priority.toNat, quotas := quotas, cap := g.cap.toNat }
      let crewed := ∀ r : RoleIx, quotas[r] ≤ i.tallies[r]
      (invalid → answers p .refusedInvalid) ∧
      (¬invalid → crewed → i.state ≠ .complete →
        answers ((((p.setIncident k { j with state := .complete, timer := none }).report .crewComplete).trim k).round)
          .done) ∧
      (¬invalid → ¬crewed → i.state = .complete →
        answers ((((p.setIncident k { j with state := .calling, timer := some (stageDuration i.durations i.stage) }).report
          .callingAgain).trim k).round) .done) ∧
      (¬invalid → (crewed ↔ i.state = .complete) → answers (((p.setIncident k j).trim k).round) .done)

/-- R114, R117: CLOSE and ENGINE-CLEAR. Everyone engaged is stood down in ascending order and becomes FREE, the closed
slots leave every declined-for set and the age order and become FREE, pending slots are acted on in ascending
volunteer number, and an offer round runs where anyone became FREE (R126; the model's reading: log 8). Where it ends a
hold, `settle` puts the attempt after the work (the model's reading: log 9). The two byte cycles of a word in 8-bit mode
are one command, and MA shows 0 (the model's choices: log 6, log 16). -/
def Obligations.IncidentsClosed : Prop :=
  ∀ (s : State) (ln : Lines), s.part.pins.resetN = true →
    let p (code : Word) := (s.part.withLines ln).requestKept code
    let answers (c : Instr) (code : Word) (q : Part) (result : ResultCode) : Prop :=
      exec c s = .next { s with part := (q.resultKept code result none).settle }
    let engaged (k : Slot) : List VolunteerIx := (List.finRange 240).filter fun v =>
      decide (s.part.engagement v = .offered k ∨ s.part.engagement v = .attending k)
    let closing (c : Slot → Bool) (q : Part) : Part :=
      { q with engine := { q.engine with
          standing := q.engine.standing.map fun x =>
            { x with declined := Vector.ofFn fun k => !c k && x.declined[k] }
          incidents := Vector.ofFn fun k => if c k then q.engine.incidents[k].closed else q.engine.incidents[k]
          age := q.engine.age.filter fun k => !c k } }
    let isOpen (k : Slot) : Bool := s.part.engine.incidents[k].state ≠ .free
    let openSlots := (List.finRange 4).filter isOpen
    let stood := openSlots.foldl (fun q k => q.standDownAll (engaged k)) (p 7)
    let freed : List VolunteerIx := (List.finRange 240).filter fun v => openSlots.any fun k => decide (v ∈ engaged k)
    ((∀ k, ¬s.part.stagingNames k) → answers (.closeIncident ln) 3 (p 3) .refusedStale) ∧
    (∀ k, s.part.stagingNames k →
      let closed := (engaged k).foldl Part.actOnPending
        (closing (fun j => decide (j = k)) ((p 3).standDownAll (engaged k)))
      answers (.closeIncident ln) 3 (if engaged k = [] then closed else closed.round) .done) ∧
    let cleared := freed.foldl Part.actOnPending (closing isOpen stood)
    answers (.engineClear ln) 7 (if freed = [] then cleared else cleared.round) .done

/-- R103, R104, R116: a stage timer's second, its expiry, and ADVANCE, which acts as an expiry of a CALLING incident:
the next used stage with its full timer and an offer round, or SHORT. Where it ends a hold, `settle` puts the attempt
after the work (the model's reading: log 9). The two byte cycles of a word in 8-bit mode are one command, and MA shows 0
(the model's choices: log 6, log 16). -/
def Obligations.StagesAdvance : Prop :=
  ∀ (s : State) (ln : Lines) (k : Slot),
    let i := s.part.engine.incidents[k]
    let later (j : Nat) : Prop := i.stage < j ∧ j ≤ 4 ∧ i.durations[j - 1]?.getD 0 ≠ 0
    let expires (p q : Part) : Prop :=
      (∀ j, later j → (∀ x, later x → j ≤ x) →
        q = ((p.setIncident k { i with stage := j, timer := some (i.durations[j - 1]?.getD 0) }).report
          .stageAdvance).round) ∧
      ((∀ j, ¬later j) → q = (p.setIncident k { i with state := .short, timer := none }).report .crewShort)
    let p := (s.part.withLines ln).requestKept 4
    let answers (q : Part) (code : ResultCode) : Prop :=
      exec (.advance ln) s = .next { s with part := (q.resultKept 4 code none).settle }
    (s.part.pins.resetN = true →
      ((∀ x, ¬s.part.stagingNames x) → answers p .refusedStale) ∧
      (s.part.stagingNames k → i.state ≠ .calling → answers p .refusedState) ∧
      (s.part.stagingNames k → i.state = .calling → ∃ q, expires p q ∧ answers q .done)) ∧
    (i.state = .calling → i.timer = some 0 →
      ∃ q, expires (s.part.withLines ln) q ∧ exec (.stageTimerExpiry k ln) s = .next { s with part := q.settle }) ∧
    ∀ n, i.state = .calling → i.timer = some (n + 1) →
      exec (.timerSecond k) s = .next { s with part := s.part.setIncident k { i with timer := some n } }

/-- R138, R133: the assignment of an admission, what the admission does, and the trim: the volunteers OFFERED the slot
with no role that is needed, in ascending number, are stood down and become FREE, and then their pending slots are
acted on. -/
def Obligations.AdmissionMade : Prop :=
  (∀ (i : Incident) (roles : BitVec 6),
    let unmet (r : RoleIx) : Nat := i.quotas[r] - i.tallies[r]
    let mine (r : RoleIx) : Prop := roles.getLsbD r.val = true ∧ 0 < unmet r
    (∀ r, mine r → (∀ x, mine x → unmet x ≤ unmet r ∧ (unmet x = unmet r → r ≤ x)) →
      i.assignment roles = some (.role r)) ∧
    ((∀ r, ¬mine r) → i.attendees.length + ((List.finRange 6).map unmet).sum < i.cap →
      i.assignment roles = some .extra) ∧
    ((∀ r, ¬mine r) → i.cap ≤ i.attendees.length + ((List.finRange 6).map unmet).sum → i.assignment roles = none)) ∧
  ∀ (p : Part) (v : VolunteerIx) (k : Slot) (eta : Nat),
    let i := p.engine.incidents[k]
    let entry (a : Assignment) : Attendee := { volunteer := v, assignment := a, eta := eta }
    let joined (j : Incident) : Part :=
      { p.setIncident k j with engine := { (p.setIncident k j).engine with
          standing := p.engine.standing.set v { p.engine.standing[v] with engagement := .attending k } } }
    p.enlist v k .extra eta =
      (joined { i with attendees := i.attendees ++ [entry .extra], extras := i.extras + 1 }).report .attendTaken ∧
    (∀ r : RoleIx,
      let j : Incident :=
        { i with attendees := i.attendees ++ [entry (.role r)], tallies := i.tallies.set r (i.tallies[r] + 1) }
      let completes := (i.state = .calling ∨ i.state = .short) ∧ ∀ x : RoleIx, j.quotas[x] ≤ j.tallies[x]
      (completes → p.enlist v k (.role r) eta =
        ((((joined { j with state := .complete, timer := none }).report .attendTaken).report .crewComplete).trim k)) ∧
      (¬completes → p.enlist v k (.role r) eta = ((joined j).report .attendTaken).trim k)) ∧
    let surplus := (List.finRange 240).filter fun x =>
      decide (p.engagement x = .offered k ∧
        ∀ r : RoleIx, (p.shadow x).roles.getLsbD r.val = true → i.quotas[r] ≤ i.tallies[r])
    p.trim k = surplus.foldl Part.actOnPending (p.standDownAll surplus)

/-- R134 to R139, R141 to R143: what an ATTEND, a DECLINE, an AVAIL-OFF and an AVAIL-ON do by the volunteer's
engagement and the reference. A decline after attending removes the attendee as `ReleaseJudged` says. -/
def Obligations.PressesJudged : Prop :=
  ∀ (p : Part) (v : VolunteerIx) (k : Slot) (g : BitVec 4) (eta : Nat),
    let i := p.engine.incidents[k]
    let named := i.state ≠ .free ∧ i.generation = g
    let alert (q : Part) (x : Slot) : Message :=
      .alert { slot := x, generation := q.engine.incidents[x].generation, station := q.engine.incidents[x].station,
               priority := q.engine.incidents[x].priority }
    let freedBy (q : Part) : Prop := ∃ x : VolunteerIx, x ≠ v ∧ p.engagement x = .offered k ∧ q.engagement x = .free
    let stood := (p.tell v .standDown).leaves v k
    let turnedBack := stood.setIncident k { i with turnedBack := if i.turnedBack < 255 then i.turnedBack + 1
                                                                 else i.turnedBack }
    let declines (j : Incident) : Nat := if j.declines < 255 then j.declines + 1 else j.declines
    let home (q : Part) (on : Bool) : Part :=
      { q with roster := { q.roster with entries := q.roster.entries.set v { q.roster.entries[v] with home := on } } }
    let declined (q : Part) (x : Slot) : Part :=
      let j := q.engine.incidents[x]
      ((((((q.tell v .standDown).leaves v x).setIncident x { j with declines := declines j }).report
        .declineTaken).actOnPending v).round)
    (p.engagement v = .offered k → named →
      (∀ a, i.assignment (p.shadow v).roles = some a →
        let q := p.enlist v k a eta
        (freedBy q → p.takeAttend v eta k g = q.round) ∧ (¬freedBy q → p.takeAttend v eta k g = q)) ∧
      (i.assignment (p.shadow v).roles = none → p.takeAttend v eta k g = (turnedBack.actOnPending v).round)) ∧
    (p.engagement v = .attending k → named → p.takeAttend v eta k g = p) ∧
    (∀ x, p.engagement v = .offered x ∨ p.engagement v = .attending x → x ≠ k ∨ ¬named →
      p.takeAttend v eta k g = p.staleKept.tell v (alert p x) ∧
      p.takeDecline v k g = p.staleKept.tell v (alert p x)) ∧
    (p.engagement v = .free → named → p.engine.standing[v].declined[k] = false →
      (∀ a, i.assignment (p.shadow v).roles = some a →
        let q := p.enlist v k a eta
        let told := q.tell v (alert q k)
        (freedBy q → p.takeAttend v eta k g = told.round) ∧ (¬freedBy q → p.takeAttend v eta k g = told)) ∧
      (i.assignment (p.shadow v).roles = none → p.takeAttend v eta k g = turnedBack)) ∧
    (p.engagement v = .free → ¬named ∨ p.engine.standing[v].declined[k] = true →
      p.takeAttend v eta k g = p.staleKept.tell v .standDown) ∧
    (p.engagement v = .offered k → named → p.takeDecline v k g = declined p k) ∧
    (p.engagement v = .attending k → named → p.takeDecline v k g = declined (p.removeAttendee v k) k) ∧
    (p.engagement v = .free → p.takeDecline v k g = p.staleKept) ∧
    (p.engagement v = .free ∨ (∃ x, p.engagement v = .attending x) → p.takeAvailOff v = home p false) ∧
    (∀ x, p.engagement v = .offered x → p.takeAvailOff v = declined (home p false) x) ∧
    (p.takeAvailOn v = if p.roster.entries[v].home then home p true else (home p true).round)

/-- R144, R145: MANUAL-ATTEND. Refused by the first condition that holds; DONE with no change for an attendee of the
named incident; otherwise admitted, alerted, and a round where the trim made anyone FREE. Where it ends a hold,
`settle` puts the attempt after the work (the model's reading: log 9). The two byte cycles of a word in 8-bit mode are
one command, and MA shows 0 (the model's choices: log 6, log 16). -/
def Obligations.ManualAttendJudged : Prop :=
  ∀ (s : State) (ln : Lines), s.part.pins.resetN = true →
    let p := (s.part.withLines ln).requestKept 5
    let g := s.part.bus.staging
    let eta := g.eta.toNat
    let answers (q : Part) (code : ResultCode) : Prop :=
      exec (.manualAttend ln) s = .next { s with part := (q.resultKept 5 code none).settle }
    ((∀ k, ¬s.part.stagingNames k) → answers p .refusedStale) ∧
    ∀ k, s.part.stagingNames k →
      let i := s.part.engine.incidents[k]
      (g.volunteer.toNat = 0 ∨ 240 < g.volunteer.toNat → answers p .refusedInvalid) ∧
      ∀ v : VolunteerIx, g.volunteer.toNat = v.val + 1 →
        let alert : Message :=
          .alert { slot := k, generation := i.generation, station := i.station, priority := i.priority }
        let freedBy (q : Part) : Prop :=
          ∃ x : VolunteerIx, x ≠ v ∧ s.part.engagement x = .offered k ∧ q.engagement x = .free
        let invalid := (s.part.shadow v).present = false ∨ eta = 0 ∨ 3 < eta
        (invalid → answers p .refusedInvalid) ∧
        (¬invalid → ∀ x, x ≠ k → s.part.engagement v = .attending x → answers p .refusedState) ∧
        (¬invalid → s.part.engagement v = .attending k → answers p .done) ∧
        (¬invalid → (∀ x, s.part.engagement v ≠ .attending x) →
          (i.assignment (s.part.shadow v).roles = none → answers p .refusedState) ∧
          ∀ a, i.assignment (s.part.shadow v).roles = some a →
            let q := p.enlist v k a eta
            (freedBy q → answers (q.tell v alert).round .done) ∧ (¬freedBy q → answers (q.tell v alert) .done))

/-- R147: RELEASE. R132: an attendee's removal: the entry is taken out, the count it raised falls, the volunteer
becomes FREE, and a COMPLETE incident with a tally now below its quota returns to CALLING with a full timer (R107).
The premise holds of every attendee (R98, R123). Where it ends a hold, `settle` puts the attempt after the work (the
model's reading: log 9). The two byte cycles of a word in 8-bit mode are one command, and MA shows 0 (the model's
choices: log 6, log 16). -/
def Obligations.ReleaseJudged : Prop :=
  (∀ (s : State) (ln : Lines), s.part.pins.resetN = true →
    let p := (s.part.withLines ln).requestKept 6
    let n := s.part.bus.staging.volunteer.toNat
    let answers (q : Part) (code : ResultCode) : Prop :=
      exec (.release ln) s = .next { s with part := (q.resultKept 6 code none).settle }
    (n = 0 ∨ 240 < n → answers p .refusedInvalid) ∧
    ∀ v : VolunteerIx, n = v.val + 1 →
      (s.part.engagement v = .free → answers p .refusedState) ∧
      (∀ k, s.part.engagement v = .offered k →
        answers ((((p.tell v .standDown).leaves v k).actOnPending v).round) .done) ∧
      ∀ k, s.part.engagement v = .attending k →
        answers (((((p.removeAttendee v k).tell v .standDown).leaves v k).actOnPending v).round) .done) ∧
  ∀ (p : Part) (v : VolunteerIx) (k : Slot) (before after : List Attendee) (x : Attendee),
    let i := p.engine.incidents[k]
    i.attendees = before ++ x :: after → x.volunteer = v → (∀ y ∈ before, y.volunteer ≠ v) →
    let j : Incident :=
      match x.assignment with
      | .role r => { i with attendees := before ++ after, tallies := i.tallies.set r (i.tallies[r] - 1) }
      | .extra => { i with attendees := before ++ after, extras := i.extras - 1 }
    let freed (j : Incident) : Part := (p.setIncident k j).setFree v
    let short := ∃ r : RoleIx, j.tallies[r] < j.quotas[r]
    (i.state = .complete → short →
      p.removeAttendee v k =
        (freed { j with state := .calling, timer := some (stageDuration i.durations i.stage) }).report .callingAgain) ∧
    (i.state ≠ .complete ∨ ¬short → p.removeAttendee v k = freed j)

/-- R44, R102, R126 to R130: the offer round. Unreachable counts start at 0, then each volunteer in ascending number
is judged: passed over, offered, moved, or counted out of reach. -/
def Obligations.RoundJudges : Prop :=
  (∀ p : Part, p.round = (List.finRange 240).foldl Part.judgeVolunteer
    { p with engine := { p.engine with incidents := p.engine.incidents.map fun i => { i with unreachable := 0 } } }) ∧
  ∀ (p : Part) (v : VolunteerIx),
    let r := p.shadow v
    let seated (l : UnitEntry → Prop) : Prop := ∃ u : UnitIx, r.unit = u.val + 1 ∧ l p.units[u]
    let callable := r.present = true ∧ r.onCall = true ∧ p.roster.entries[v].home = true ∧
      seated fun e => e.link ≠ .disabled
    let silent := seated fun e => e.link = .silent
    let qualifies (k : Slot) : Prop :=
      let i := p.engine.incidents[k]
      (i.state = .calling ∨ i.state = .short) ∧
        (if r.station = i.station then r.tier ≤ min i.stage 3
         else i.stage = 4 ∧ r.aid = true ∧ p.settings.active.giving.getLsbD r.station = true) ∧
        p.engine.standing[v].declined[k] = false ∧
        ∃ x : RoleIx, r.roles.getLsbD x.val = true ∧ i.tallies[x] < i.quotas[x]
    let priority (k : Slot) : Nat := p.engine.incidents[k].priority
    let wins (k : Slot) : Prop := ∃ before after, p.engine.age = before ++ k :: after ∧ qualifies k ∧
      (∀ j ∈ before, qualifies j → priority k < priority j) ∧ ∀ j ∈ after, qualifies j → priority k ≤ priority j
    let offered (k : Slot) : Part :=
      let i := p.engine.incidents[k]
      (({ p.setIncident k { i with offers := if i.offers < 255 then i.offers + 1 else i.offers } with
          engine := { (p.setIncident k { i with offers := if i.offers < 255 then i.offers + 1 else i.offers }).engine with
            standing := p.engine.standing.set v { p.engine.standing[v] with engagement := .offered k } } }).tell v
        (.alert { slot := k, generation := i.generation, station := i.station, priority := i.priority }))
    let counted (q : Part) (c : Slot → Prop) : Prop :=
      q = { p with engine := { p.engine with incidents := q.engine.incidents } } ∧
        ∀ k : Slot, (c k → q.engine.incidents[k] =
            { p.engine.incidents[k] with unreachable := p.engine.incidents[k].unreachable + 1 }) ∧
          (¬c k → q.engine.incidents[k] = p.engine.incidents[k])
    let ranked := p.engine.ageLaw ∧ ∀ k : Slot, p.engine.incidents[k].state ≠ .free →
      1 ≤ priority k ∧ priority k ≤ 3
    (¬callable ∨ (∃ k, p.engagement v = .attending k) → p.judgeVolunteer v = p) ∧
    (callable → ranked → p.engagement v = .free →
      (silent → counted (p.judgeVolunteer v) qualifies) ∧
      (¬silent → ∀ k, wins k → p.judgeVolunteer v = offered k) ∧
      (¬silent → (∀ k, ¬qualifies k) → p.judgeVolunteer v = p)) ∧
    ∀ t, callable → ranked → p.engagement v = .offered t →
      (silent → counted (p.judgeVolunteer v) fun k => qualifies k ∧ priority k < priority t) ∧
      (¬silent → ∀ k, wins k → priority k < priority t → p.judgeVolunteer v = offered k) ∧
      (¬silent → (∀ k, qualifies k → priority t ≤ priority k) → p.judgeVolunteer v = p)

/-! ## Notification (chapter 8) -/

/-- R150 to R154, R90: reports, clears, enable writes, the re-pulse timer and the lines. The other line is as it was;
a clear of CHANGE-CYCLE ends a hold. The attempt follows the clear's own work (the model's reading: log 9). The two byte
cycles of a word in 8-bit mode are one command, and MA shows 0 (the model's choices: log 6, log 16). -/
def Obligations.NotifyLines : Prop :=
  (∀ (p : Part) (x : Source) (l : NoteLine) (bit : Nat), (x, l, bit) ∈ sourceTable →
    let n := p.notify.line l
    p.report x = { p with notify := p.notify.onLine l fun _ =>
      { n with status := if n.enables.getLsbD bit then n.status ||| (1#8 <<< bit) else n.status } }) ∧
  (∀ (s : State) (l : NoteLine) (w : Word) (ln : Lines), s.part.pins.resetN = true → s.part.holdStands →
    let p := (s.part.withLines ln).withheld
    let n := p.notify.line l
    let byte : Byte := w.setWidth 8
    let cleared (repulse : Bool) : Part :=
      { p with notify := p.notify.onLine l fun _ =>
          { n with status := n.status &&& ~~~byte, repulse := repulse } }
    let q := if n.status &&& byte = 0 then p
      else cleared (if n.status &&& ~~~byte = 0 then n.repulse else true)
    let endsHold := l = .b ∧ w.getLsbD 3 = true ∧ p.notify.b.status.getLsbD 3 = true
    (endsHold → exec (.notifyClear l w ln) s = .next { s with part := q.endHold.settle }) ∧
    (¬endsHold → exec (.notifyClear l w ln) s = .next { s with part := q })) ∧
  (∀ (s : State) (l : NoteLine) (w : Word), s.part.pins.resetN = true →
    let p := s.part.withheld
    exec (.notifyEnableWrite l w) s =
      .next { s with part := { p with notify := p.notify.onLine l fun n => { n with enables := w.setWidth 8 } } }) ∧
  (∀ (s : State) (l : NoteLine),
    exec (.repulseTimerExpiry l) s =
      .next { s with part := { s.part with notify := s.part.notify.onLine l fun n => { n with repulse := false } } }) ∧
  (∀ (n : Notify) (l : NoteLine) (f : NoteUnit → NoteUnit), (n.onLine l f).line l = f (n.line l) ∧
    ∀ m, m ≠ l → (n.onLine l f).line m = n.line m) ∧
  ∀ (p : Part) (l : NoteLine),
    p.noteActive l = true ↔
      p.pins.resetN = true ∧ (∃ bit < 8, (p.notify.line l).status.getLsbD bit = true) ∧ (p.notify.line l).repulse = false

/-! ## Link tests (chapter 9) -/

/-- R162 to R164, R166, R168: judging the enables, the waits, and the burst keyed. The 128 bits of a PRBS burst
continue the generator's sequence (log 12). An expiry in the test's channel wait is a forced transmit whatever the
carrier mask has become since the wait began (the model's choice: log 25). A change of kind in TEST-RETRY-WAIT keeps the
standing episode, so its new ready check counts no second one (the model's choice: log 26). -/
def Obligations.TestBurstsBegin : Prop :=
  (∀ p : Part,
    let t := p.settings.active.tests
    let given (k : TestKind) : Prop := (k = .pattern ∧ t.pattern = true ∧ t.prbs = false) ∨
      (k = .prbs ∧ t.pattern = false ∧ t.prbs = true)
    let ended : Part := { p with check := { p.check with test := .idle, kind := none, episode := false } }
    (p.check.test.inFlight = true → p.judgeTests = p) ∧
    (p.check.test.inFlight = false → t.pattern = t.prbs →
      p.judgeTests = if p.check.test = .idle then p else ended) ∧
    ∀ k, p.check.test.inFlight = false → given k →
      p.judgeTests =
        if p.check.test ≠ .idle ∧ p.check.kind = some k then p
        else Part.beginBurst
          { p with check := { p.check with kind := some k
                                           generator := if k = .prbs then 0x7F else p.check.generator } }) ∧
  (∀ p : Part,
    let l := p.settings.active.link
    let ready := p.pins.rdy = true ∨ l.readyMask = true
    let busy := p.pins.cd = true ∧ l.carrierMask = false
    let check (f : LinkCheck → LinkCheck) : Part := { p with check := f p.check }
    (¬ready → p.beginBurst =
      if p.check.episode then check fun c => { c with test := .retryWait, episode := true }
      else (check fun c => { c with test := .retryWait, episode := true,
                                    notReady := if c.notReady < 255 then c.notReady + 1 else c.notReady }).report
        .radioTrouble) ∧
    (ready → busy → p.beginBurst = check fun c => { c with test := .channelWait l.lbtLimit, episode := false }) ∧
    (ready → ¬busy → p.beginBurst = (check fun c => { c with episode := false }).keyBurst) ∧
    (p.check.kind = some .pattern →
      let words := (List.replicate 8 ((List.finRange 16).map fun i =>
        if l.patternMarks.getLsbD i.val then [(0x7E81 : Word), l.patternWords[i]]
        else [l.patternWords[i]]).flatten).flatten
      p.keyBurst = check fun c => { c with test := .sending words }) ∧
    (p.check.kind = some .prbs → ∃ (words : List Word) (generator : BitVec 7), words.length = 8 ∧
      p.keyBurst = (check fun c => { c with test := .sending (0x7E81 :: words), generator := generator }) ∧
      let bit (n : Nat) : Bool :=
        if n < 7 then p.check.generator.getLsbD (6 - n)
        else (words[(n - 7) / 16]?.getD 0).getLsbD (15 - (n - 7) % 16)
      (∀ n < 128, bit (n + 7) = (bit (n + 1) ^^ bit n)) ∧ ∀ n < 7, generator.getLsbD n = bit (134 - n))) ∧
  ∀ (s : State) (ln : Lines),
    (s.part.check.test = .retryWait →
      exec (.testRetryExpiry ln) s = .next { s with part := (s.part.withLines ln).beginBurst }) ∧
    ∀ limit, s.part.check.test = .channelWait limit →
      let p := s.part
      exec .testCdFall s = .next { s with part := Part.keyBurst { p with pins := { p.pins with cd := false } } } ∧
      exec .testLbtExpiry s =
        .next { s with part := (Part.report
          { p with check := { p.check with forced := if p.check.forced < 255 then p.check.forced + 1
                                                     else p.check.forced } } .radioTrouble).keyBurst }

/-- R21, R162, R165, R167: the turnaround, the listen window and its length, the lead-in, the words and groups judged,
the window's close, and what follows a listen's end. The length is held in sixths of a microsecond, and a word or group
has its first bit in bit 15 (the model's choices: log 7, log 24). -/
def Obligations.TestListens : Prop :=
  ∀ (s : State) (ln : Lines),
    let l := s.part.settings.active.link
    let p := s.part.withLines ln
    let check (f : LinkCheck → LinkCheck) : State := { s with part := { s.part with check := f s.part.check } }
    let up (n k : Nat) : Nat := if 65535 ≤ n then n else min 65535 (n + k)
    let goesOn (f : LinkCheck → LinkCheck) : Part := { p with check := f p.check }
    let repetition := ((List.finRange 16).map fun i =>
      if l.patternMarks.getLsbD i.val then [Place.leadIn, .word i] else [.word i]).flatten
    let marked (f : Fin 16) : Prop := l.patternMarks.getLsbD f.val = true ∧ ∀ j < f, l.patternMarks.getLsbD j.val = false
    let bits := if s.part.check.kind = some .prbs then 144 else 16 * (8 * repetition.length)
    (∀ words, s.part.check.test = .sending words → exec .burstEnd s = .next (check fun c => { c with test := .turnaround })) ∧
    (s.part.check.test = .turnaround → l.rate ≤ 3 →
      exec .testTurnaroundEnd s = .next (check fun c =>
        { c with test := .listening (bits * (6000000 / (1200 * 2 ^ l.rate)) + l.hopCount * l.hopDelay * 6000 + 5 * 6000)
                   .seeking })) ∧
    (∀ ticks, s.part.check.test = .listening ticks .seeking →
      (s.part.check.kind = some .pattern → ∀ f : Fin 16, marked f →
        exec .testLeadIn s = .next (check fun c =>
          { c with test := .listening ticks (.pattern
              ((repetition.dropWhile fun x => x ≠ .word f) ++ (List.replicate 7 repetition).flatten)) })) ∧
      (s.part.check.kind = some .prbs →
        exec .testLeadIn s = .next (check fun c => { c with test := .listening ticks (.prbs 0), checker := 0 }))) ∧
    (∀ ticks place rest w, s.part.check.test = .listening ticks (.pattern (place :: rest)) →
      let c := p.check
      let judged : LinkCheck :=
        match place with
        | .leadIn => c
        | .word i => if w = l.patternWords[i] then { c with matched := up c.matched 1 }
                     else { c with mismatched := up c.mismatched 1 }
      let q := goesOn fun _ => { judged with test := .listening ticks (.pattern rest) }
      exec (.patternWordReceived w ln) s = .next { s with part := if rest = [] then q.endListen else q }) ∧
    (∀ ticks n w, s.part.check.test = .listening ticks (.prbs n) →
      let bit (k : Nat) : Bool := if k < 7 then p.check.checker.getLsbD (6 - k) else w.getLsbD (22 - k)
      let right := ∀ k < 16, (n = 0 → 7 ≤ k) → bit (k + 7) = (bit (k + 1) ^^ bit k)
      let counted : LinkCheck := { p.check with test := .listening ticks (.prbs (n + 1)), checker := w.setWidth 7 }
      let after (c : LinkCheck) : State :=
        { s with part := if n + 1 < 8 then goesOn fun _ => c else (goesOn fun _ => c).endListen }
      (right → exec (.prbsGroupReceived w ln) s = .next (after { counted with matched := up p.check.matched 1 })) ∧
      (¬right → exec (.prbsGroupReceived w ln) s = .next (after { counted with mismatched := up p.check.mismatched 1 }))) ∧
    (∀ ticks listen, s.part.check.test = .listening ticks listen →
      let closes (n : Nat) : Prop :=
        exec (.testListenClose ln) s =
          .next { s with part := (goesOn fun c => { c with mismatched := up c.mismatched n }).endListen }
      (∀ places, listen = .pattern places → closes (places.countP fun x => x ≠ .leadIn)) ∧
      (∀ n, listen = .prbs n → closes (8 - n)) ∧
      (listen = .seeking → s.part.check.kind = some .prbs → closes 8) ∧
      (listen = .seeking → s.part.check.kind = some .pattern →
        (l.patternMarks = 0 → closes 128) ∧ ∀ f, marked f → closes (128 - f.val))) ∧
    ∀ p : Part,
      let q : Part := { p with settings := { p.settings with active := { p.settings.active with
        link := p.settings.staged.link, tests := p.settings.staged.tests } } }
      let t := p.settings.staged.tests
      let given (k : TestKind) : Prop := (k = .pattern ∧ t.pattern = true ∧ t.prbs = false) ∨
        (k = .prbs ∧ t.pattern = false ∧ t.prbs = true)
      (t.pattern = t.prbs →
        p.endListen = { q with check := { q.check with test := .idle, kind := none, episode := false } }) ∧
      ∀ k, given k →
        p.endListen =
          if p.check.kind = some k then q.beginBurst
          else Part.beginBurst
            { q with check := { q.check with kind := some k
                                             generator := if k = .prbs then 0x7F else q.check.generator } }

/-! ## Commands that name no event of the part -/

/-- The model's choice (log 5, log 22): a command whose event cannot happen as the part stands leaves it as it was,
but for the levels of RDY and CD that the command carries. -/
def Obligations.ImpossibleEventsLeavePart : Prop :=
  ∀ (s : State) (ln : Lines),
    let p := s.part
    let kept (c : Instr) : Prop := exec c s = .next s
    let lines (c : Instr) : Prop := exec c s = .next { s with part := p.withLines ln }
    let listens := ∃ ticks l, p.check.test = .listening ticks l
    (p.pins.resetN = true → (∀ pins c, kept (.resetRelease pins c)) ∧
      ∀ c, classify p.bus.straps c ≠ .plain → kept (.plainCycle c)) ∧
    (p.pins.resetN = false → ∀ pins c, kept (.deviceReset pins c)) ∧
    (p.bus.straps.data8 = false → (∀ k, kept (.lowByteRead k) ∧ kept (.highByteRead k)) ∧
      (∀ off x, kept (.lowByteWrite off x) ∧ lines (.highByteWrite off x ln))) ∧
    (p.scan.retryTimer = false → lines (.retryTimerExpiry ln)) ∧
    (p.scan.lbtTimer = none → kept .cdFall ∧ kept .lbtTimerExpiry) ∧
    (p.scan.guardTimer = none → lines (.holdGuardExpiry ln)) ∧
    ((∀ a b c, p.scan.radio ≠ .head a b c) → lines (.frameHeadEnd ln)) ∧
    ((∀ a, p.scan.radio ≠ .packet a) → kept .packetEnd) ∧
    (p.scan.radio ≠ .turnaround → kept .turnaroundEnd) ∧
    ((∀ a, p.scan.radio ≠ .window a .nothing) → kept .replyStart) ∧
    ((∀ a, p.scan.radio ≠ .window a .started) → ∀ r, lines (.replyComplete r ln)) ∧
    ((∀ a b, p.scan.radio ≠ .window a b) → lines (.replyWindowClose ln)) ∧
    (∀ k : Slot, (p.engine.incidents[k].state ≠ .calling ∨ p.engine.incidents[k].timer ≠ some 0 →
        lines (.stageTimerExpiry k ln)) ∧
      (p.engine.incidents[k].state ≠ .calling ∨ p.engine.incidents[k].timer = none ∨
        p.engine.incidents[k].timer = some 0 → kept (.timerSecond k))) ∧
    (p.check.test ≠ .retryWait → lines (.testRetryExpiry ln)) ∧
    ((∀ n, p.check.test ≠ .channelWait n) → kept .testCdFall ∧ kept .testLbtExpiry) ∧
    ((∀ a, p.check.test ≠ .sending a) → kept .burstEnd) ∧
    (p.check.test ≠ .turnaround → kept .testTurnaroundEnd) ∧
    ((∀ a, p.check.test ≠ .listening a .seeking) ∨ (p.check.kind = some .pattern ∧
      p.settings.active.link.patternMarks = 0) → kept .testLeadIn) ∧
    ((∀ a b c, p.check.test ≠ .listening a (.pattern (b :: c))) → ∀ w, lines (.patternWordReceived w ln)) ∧
    ((∀ a b, p.check.test ≠ .listening a (.prbs b)) → ∀ w, lines (.prbsGroupReceived w ln)) ∧
    (¬listens → lines (.testListenClose ln))

/-! ## Laws that every step keeps -/

/-- The static RAM stays in canonical form, the settings in their ranges (R18), and the board's counters and error and
reject counts in theirs. The counts of an incident record are `StepKeepsEngine`'s. The form is the model's (log 2). -/
def Obligations.StepKeepsStores : Prop :=
  ∀ s t : State, step s = .next t →
    Memory.wf s.part.mem = true ∧ s.part.settings.inRange ∧ s.part.countersInRange →
    Memory.wf t.part.mem = true ∧ t.part.settings.inRange ∧ t.part.countersInRange

/-- R36, R37: no two present shadow records name one seat, and shadows and pending records stay valid. -/
def Obligations.StepKeepsRoster : Prop :=
  ∀ s t : State, step s = .next t → s.part.roster.law → t.part.roster.law

/-- R51, R54, R60, R81: a DISABLED unit holds no message; the urgent list is the set of the units its condition picks.
-/
def Obligations.StepKeepsUnits : Prop :=
  ∀ s t : State, step s = .next t →
    s.part.urgentLaw ∧ (∀ u : UnitIx, (s.part.units[u]).law) → t.part.urgentLaw ∧ ∀ u : UnitIx, (t.part.units[u]).law

/-- R39, R95, R97 to R101, R103, R106, R107, R122, R123: the age order, the tallies, the priority of an open incident and
the counts of a record in their ranges, the cap law, the state law, the engagements and the pending slots. -/
def Obligations.StepKeepsEngine : Prop :=
  let inv (p : Part) : Prop := p.engine.ageLaw ∧ p.engine.engagementLaw ∧ p.pendingLaw ∧
    ∀ k : Slot, (p.engine.incidents[k]).countsLaw ∧ (p.engine.incidents[k]).rangeLaw ∧
      (p.engine.incidents[k]).capLaw ∧ (p.engine.incidents[k]).stateLaw
  ∀ s t : State, step s = .next t → inv s.part → inv t.part

/-- R72 to R75, R89, R91, R92: phase, timers, scan run and radio stand together, and an open incident keeps the link
running. -/
def Obligations.StepKeepsLink : Prop := ∀ s t : State, step s = .next t → s.part.linkLaw → t.part.linkLaw

/-- The laws hold of the part after reset. -/
def Obligations.ResetHasLaws : Prop :=
  let p := State.reset.part
  Memory.wf p.mem = true ∧ p.settings.inRange ∧ p.countersInRange ∧ p.roster.law ∧ p.urgentLaw ∧
    (∀ u : UnitIx, (p.units[u]).law) ∧ p.engine.ageLaw ∧ p.engine.engagementLaw ∧ p.pendingLaw ∧
    (∀ k : Slot, (p.engine.incidents[k]).countsLaw ∧ (p.engine.incidents[k]).rangeLaw ∧
      (p.engine.incidents[k]).capLaw ∧ (p.engine.incidents[k]).stateLaw) ∧ p.linkLaw
end

