-- ==== Sys2Proof/Laws/State.lean ====
section
/-! SUPPORT. What each named update does to each block of the part: one lemma for each block and update, true by
definition, so that no proof unfolds a record update. -/

namespace Sys2Proof.Machine

/-! ## The whole state -/

@[simp] theorem State.onPart_part (s : State) (f : Part → Part) : (s.onPart f).part = f s.part := rfl
@[simp] theorem State.onPart_pending (s : State) (f : Part → Part) : (s.onPart f).pending = s.pending := rfl
theorem State.run_eq (s : State) (f : Part → Part) :
    s.run f = .next { part := f s.part, pending := s.pending } := rfl

/-! ## Blocks -/

@[simp] theorem Part.onPins_pins (p : Part) (f : Pins → Pins) : (p.onPins f).pins = f p.pins := rfl
@[simp] theorem Part.onPins_bus (p : Part) (f : Pins → Pins) : (p.onPins f).bus = p.bus := rfl
@[simp] theorem Part.onPins_mem (p : Part) (f : Pins → Pins) : (p.onPins f).mem = p.mem := rfl
@[simp] theorem Part.onPins_settings (p : Part) (f : Pins → Pins) : (p.onPins f).settings = p.settings := rfl
@[simp] theorem Part.onPins_roster (p : Part) (f : Pins → Pins) : (p.onPins f).roster = p.roster := rfl
@[simp] theorem Part.onPins_units (p : Part) (f : Pins → Pins) : (p.onPins f).units = p.units := rfl
@[simp] theorem Part.onPins_scan (p : Part) (f : Pins → Pins) : (p.onPins f).scan = p.scan := rfl
@[simp] theorem Part.onPins_engine (p : Part) (f : Pins → Pins) : (p.onPins f).engine = p.engine := rfl
@[simp] theorem Part.onPins_notify (p : Part) (f : Pins → Pins) : (p.onPins f).notify = p.notify := rfl
@[simp] theorem Part.onPins_check (p : Part) (f : Pins → Pins) : (p.onPins f).check = p.check := rfl

@[simp] theorem Part.onBus_pins (p : Part) (f : Bus → Bus) : (p.onBus f).pins = p.pins := rfl
@[simp] theorem Part.onBus_bus (p : Part) (f : Bus → Bus) : (p.onBus f).bus = f p.bus := rfl
@[simp] theorem Part.onBus_mem (p : Part) (f : Bus → Bus) : (p.onBus f).mem = p.mem := rfl
@[simp] theorem Part.onBus_settings (p : Part) (f : Bus → Bus) : (p.onBus f).settings = p.settings := rfl
@[simp] theorem Part.onBus_roster (p : Part) (f : Bus → Bus) : (p.onBus f).roster = p.roster := rfl
@[simp] theorem Part.onBus_units (p : Part) (f : Bus → Bus) : (p.onBus f).units = p.units := rfl
@[simp] theorem Part.onBus_scan (p : Part) (f : Bus → Bus) : (p.onBus f).scan = p.scan := rfl
@[simp] theorem Part.onBus_engine (p : Part) (f : Bus → Bus) : (p.onBus f).engine = p.engine := rfl
@[simp] theorem Part.onBus_notify (p : Part) (f : Bus → Bus) : (p.onBus f).notify = p.notify := rfl
@[simp] theorem Part.onBus_check (p : Part) (f : Bus → Bus) : (p.onBus f).check = p.check := rfl

@[simp] theorem Part.onMem_pins (p : Part) (f : List Host.Cell → List Host.Cell) : (p.onMem f).pins = p.pins := rfl
@[simp] theorem Part.onMem_bus (p : Part) (f : List Host.Cell → List Host.Cell) : (p.onMem f).bus = p.bus := rfl
@[simp] theorem Part.onMem_mem (p : Part) (f : List Host.Cell → List Host.Cell) : (p.onMem f).mem = f p.mem := rfl
@[simp] theorem Part.onMem_settings (p : Part) (f : List Host.Cell → List Host.Cell) : (p.onMem f).settings = p.settings := rfl
@[simp] theorem Part.onMem_roster (p : Part) (f : List Host.Cell → List Host.Cell) : (p.onMem f).roster = p.roster := rfl
@[simp] theorem Part.onMem_units (p : Part) (f : List Host.Cell → List Host.Cell) : (p.onMem f).units = p.units := rfl
@[simp] theorem Part.onMem_scan (p : Part) (f : List Host.Cell → List Host.Cell) : (p.onMem f).scan = p.scan := rfl
@[simp] theorem Part.onMem_engine (p : Part) (f : List Host.Cell → List Host.Cell) : (p.onMem f).engine = p.engine := rfl
@[simp] theorem Part.onMem_notify (p : Part) (f : List Host.Cell → List Host.Cell) : (p.onMem f).notify = p.notify := rfl
@[simp] theorem Part.onMem_check (p : Part) (f : List Host.Cell → List Host.Cell) : (p.onMem f).check = p.check := rfl

@[simp] theorem Part.onSettings_pins (p : Part) (f : SettingsStore → SettingsStore) : (p.onSettings f).pins = p.pins := rfl
@[simp] theorem Part.onSettings_bus (p : Part) (f : SettingsStore → SettingsStore) : (p.onSettings f).bus = p.bus := rfl
@[simp] theorem Part.onSettings_mem (p : Part) (f : SettingsStore → SettingsStore) : (p.onSettings f).mem = p.mem := rfl
@[simp] theorem Part.onSettings_settings (p : Part) (f : SettingsStore → SettingsStore) : (p.onSettings f).settings = f p.settings := rfl
@[simp] theorem Part.onSettings_roster (p : Part) (f : SettingsStore → SettingsStore) : (p.onSettings f).roster = p.roster := rfl
@[simp] theorem Part.onSettings_units (p : Part) (f : SettingsStore → SettingsStore) : (p.onSettings f).units = p.units := rfl
@[simp] theorem Part.onSettings_scan (p : Part) (f : SettingsStore → SettingsStore) : (p.onSettings f).scan = p.scan := rfl
@[simp] theorem Part.onSettings_engine (p : Part) (f : SettingsStore → SettingsStore) : (p.onSettings f).engine = p.engine := rfl
@[simp] theorem Part.onSettings_notify (p : Part) (f : SettingsStore → SettingsStore) : (p.onSettings f).notify = p.notify := rfl
@[simp] theorem Part.onSettings_check (p : Part) (f : SettingsStore → SettingsStore) : (p.onSettings f).check = p.check := rfl

@[simp] theorem Part.onRoster_pins (p : Part) (f : Roster → Roster) : (p.onRoster f).pins = p.pins := rfl
@[simp] theorem Part.onRoster_bus (p : Part) (f : Roster → Roster) : (p.onRoster f).bus = p.bus := rfl
@[simp] theorem Part.onRoster_mem (p : Part) (f : Roster → Roster) : (p.onRoster f).mem = p.mem := rfl
@[simp] theorem Part.onRoster_settings (p : Part) (f : Roster → Roster) : (p.onRoster f).settings = p.settings := rfl
@[simp] theorem Part.onRoster_roster (p : Part) (f : Roster → Roster) : (p.onRoster f).roster = f p.roster := rfl
@[simp] theorem Part.onRoster_units (p : Part) (f : Roster → Roster) : (p.onRoster f).units = p.units := rfl
@[simp] theorem Part.onRoster_scan (p : Part) (f : Roster → Roster) : (p.onRoster f).scan = p.scan := rfl
@[simp] theorem Part.onRoster_engine (p : Part) (f : Roster → Roster) : (p.onRoster f).engine = p.engine := rfl
@[simp] theorem Part.onRoster_notify (p : Part) (f : Roster → Roster) : (p.onRoster f).notify = p.notify := rfl
@[simp] theorem Part.onRoster_check (p : Part) (f : Roster → Roster) : (p.onRoster f).check = p.check := rfl

@[simp] theorem Part.onUnits_pins (p : Part) (f : Vector UnitEntry 160 → Vector UnitEntry 160) : (p.onUnits f).pins = p.pins := rfl
@[simp] theorem Part.onUnits_bus (p : Part) (f : Vector UnitEntry 160 → Vector UnitEntry 160) : (p.onUnits f).bus = p.bus := rfl
@[simp] theorem Part.onUnits_mem (p : Part) (f : Vector UnitEntry 160 → Vector UnitEntry 160) : (p.onUnits f).mem = p.mem := rfl
@[simp] theorem Part.onUnits_settings (p : Part) (f : Vector UnitEntry 160 → Vector UnitEntry 160) : (p.onUnits f).settings = p.settings := rfl
@[simp] theorem Part.onUnits_roster (p : Part) (f : Vector UnitEntry 160 → Vector UnitEntry 160) : (p.onUnits f).roster = p.roster := rfl
@[simp] theorem Part.onUnits_units (p : Part) (f : Vector UnitEntry 160 → Vector UnitEntry 160) : (p.onUnits f).units = f p.units := rfl
@[simp] theorem Part.onUnits_scan (p : Part) (f : Vector UnitEntry 160 → Vector UnitEntry 160) : (p.onUnits f).scan = p.scan := rfl
@[simp] theorem Part.onUnits_engine (p : Part) (f : Vector UnitEntry 160 → Vector UnitEntry 160) : (p.onUnits f).engine = p.engine := rfl
@[simp] theorem Part.onUnits_notify (p : Part) (f : Vector UnitEntry 160 → Vector UnitEntry 160) : (p.onUnits f).notify = p.notify := rfl
@[simp] theorem Part.onUnits_check (p : Part) (f : Vector UnitEntry 160 → Vector UnitEntry 160) : (p.onUnits f).check = p.check := rfl

@[simp] theorem Part.onScan_pins (p : Part) (f : Scan → Scan) : (p.onScan f).pins = p.pins := rfl
@[simp] theorem Part.onScan_bus (p : Part) (f : Scan → Scan) : (p.onScan f).bus = p.bus := rfl
@[simp] theorem Part.onScan_mem (p : Part) (f : Scan → Scan) : (p.onScan f).mem = p.mem := rfl
@[simp] theorem Part.onScan_settings (p : Part) (f : Scan → Scan) : (p.onScan f).settings = p.settings := rfl
@[simp] theorem Part.onScan_roster (p : Part) (f : Scan → Scan) : (p.onScan f).roster = p.roster := rfl
@[simp] theorem Part.onScan_units (p : Part) (f : Scan → Scan) : (p.onScan f).units = p.units := rfl
@[simp] theorem Part.onScan_scan (p : Part) (f : Scan → Scan) : (p.onScan f).scan = f p.scan := rfl
@[simp] theorem Part.onScan_engine (p : Part) (f : Scan → Scan) : (p.onScan f).engine = p.engine := rfl
@[simp] theorem Part.onScan_notify (p : Part) (f : Scan → Scan) : (p.onScan f).notify = p.notify := rfl
@[simp] theorem Part.onScan_check (p : Part) (f : Scan → Scan) : (p.onScan f).check = p.check := rfl

@[simp] theorem Part.onEngine_pins (p : Part) (f : Engine → Engine) : (p.onEngine f).pins = p.pins := rfl
@[simp] theorem Part.onEngine_bus (p : Part) (f : Engine → Engine) : (p.onEngine f).bus = p.bus := rfl
@[simp] theorem Part.onEngine_mem (p : Part) (f : Engine → Engine) : (p.onEngine f).mem = p.mem := rfl
@[simp] theorem Part.onEngine_settings (p : Part) (f : Engine → Engine) : (p.onEngine f).settings = p.settings := rfl
@[simp] theorem Part.onEngine_roster (p : Part) (f : Engine → Engine) : (p.onEngine f).roster = p.roster := rfl
@[simp] theorem Part.onEngine_units (p : Part) (f : Engine → Engine) : (p.onEngine f).units = p.units := rfl
@[simp] theorem Part.onEngine_scan (p : Part) (f : Engine → Engine) : (p.onEngine f).scan = p.scan := rfl
@[simp] theorem Part.onEngine_engine (p : Part) (f : Engine → Engine) : (p.onEngine f).engine = f p.engine := rfl
@[simp] theorem Part.onEngine_notify (p : Part) (f : Engine → Engine) : (p.onEngine f).notify = p.notify := rfl
@[simp] theorem Part.onEngine_check (p : Part) (f : Engine → Engine) : (p.onEngine f).check = p.check := rfl

@[simp] theorem Part.onNotify_pins (p : Part) (f : Notify → Notify) : (p.onNotify f).pins = p.pins := rfl
@[simp] theorem Part.onNotify_bus (p : Part) (f : Notify → Notify) : (p.onNotify f).bus = p.bus := rfl
@[simp] theorem Part.onNotify_mem (p : Part) (f : Notify → Notify) : (p.onNotify f).mem = p.mem := rfl
@[simp] theorem Part.onNotify_settings (p : Part) (f : Notify → Notify) : (p.onNotify f).settings = p.settings := rfl
@[simp] theorem Part.onNotify_roster (p : Part) (f : Notify → Notify) : (p.onNotify f).roster = p.roster := rfl
@[simp] theorem Part.onNotify_units (p : Part) (f : Notify → Notify) : (p.onNotify f).units = p.units := rfl
@[simp] theorem Part.onNotify_scan (p : Part) (f : Notify → Notify) : (p.onNotify f).scan = p.scan := rfl
@[simp] theorem Part.onNotify_engine (p : Part) (f : Notify → Notify) : (p.onNotify f).engine = p.engine := rfl
@[simp] theorem Part.onNotify_notify (p : Part) (f : Notify → Notify) : (p.onNotify f).notify = f p.notify := rfl
@[simp] theorem Part.onNotify_check (p : Part) (f : Notify → Notify) : (p.onNotify f).check = p.check := rfl

@[simp] theorem Part.onCheck_pins (p : Part) (f : LinkCheck → LinkCheck) : (p.onCheck f).pins = p.pins := rfl
@[simp] theorem Part.onCheck_bus (p : Part) (f : LinkCheck → LinkCheck) : (p.onCheck f).bus = p.bus := rfl
@[simp] theorem Part.onCheck_mem (p : Part) (f : LinkCheck → LinkCheck) : (p.onCheck f).mem = p.mem := rfl
@[simp] theorem Part.onCheck_settings (p : Part) (f : LinkCheck → LinkCheck) : (p.onCheck f).settings = p.settings := rfl
@[simp] theorem Part.onCheck_roster (p : Part) (f : LinkCheck → LinkCheck) : (p.onCheck f).roster = p.roster := rfl
@[simp] theorem Part.onCheck_units (p : Part) (f : LinkCheck → LinkCheck) : (p.onCheck f).units = p.units := rfl
@[simp] theorem Part.onCheck_scan (p : Part) (f : LinkCheck → LinkCheck) : (p.onCheck f).scan = p.scan := rfl
@[simp] theorem Part.onCheck_engine (p : Part) (f : LinkCheck → LinkCheck) : (p.onCheck f).engine = p.engine := rfl
@[simp] theorem Part.onCheck_notify (p : Part) (f : LinkCheck → LinkCheck) : (p.onCheck f).notify = p.notify := rfl
@[simp] theorem Part.onCheck_check (p : Part) (f : LinkCheck → LinkCheck) : (p.onCheck f).check = f p.check := rfl

/-! ## Named updates -/

@[simp] theorem Part.withLines_bus (p : Part) (ln : Lines) : (p.withLines ln).bus = p.bus := rfl
@[simp] theorem Part.withLines_mem (p : Part) (ln : Lines) : (p.withLines ln).mem = p.mem := rfl
@[simp] theorem Part.withLines_settings (p : Part) (ln : Lines) : (p.withLines ln).settings = p.settings := rfl
@[simp] theorem Part.withLines_roster (p : Part) (ln : Lines) : (p.withLines ln).roster = p.roster := rfl
@[simp] theorem Part.withLines_units (p : Part) (ln : Lines) : (p.withLines ln).units = p.units := rfl
@[simp] theorem Part.withLines_scan (p : Part) (ln : Lines) : (p.withLines ln).scan = p.scan := rfl
@[simp] theorem Part.withLines_engine (p : Part) (ln : Lines) : (p.withLines ln).engine = p.engine := rfl
@[simp] theorem Part.withLines_notify (p : Part) (ln : Lines) : (p.withLines ln).notify = p.notify := rfl
@[simp] theorem Part.withLines_check (p : Part) (ln : Lines) : (p.withLines ln).check = p.check := rfl

@[simp] theorem Part.onRosterEntry_pins (p : Part) (v : VolunteerIx) (f : RosterEntry → RosterEntry) : (p.onRosterEntry v f).pins = p.pins := rfl
@[simp] theorem Part.onRosterEntry_bus (p : Part) (v : VolunteerIx) (f : RosterEntry → RosterEntry) : (p.onRosterEntry v f).bus = p.bus := rfl
@[simp] theorem Part.onRosterEntry_mem (p : Part) (v : VolunteerIx) (f : RosterEntry → RosterEntry) : (p.onRosterEntry v f).mem = p.mem := rfl
@[simp] theorem Part.onRosterEntry_settings (p : Part) (v : VolunteerIx) (f : RosterEntry → RosterEntry) : (p.onRosterEntry v f).settings = p.settings := rfl
@[simp] theorem Part.onRosterEntry_units (p : Part) (v : VolunteerIx) (f : RosterEntry → RosterEntry) : (p.onRosterEntry v f).units = p.units := rfl
@[simp] theorem Part.onRosterEntry_scan (p : Part) (v : VolunteerIx) (f : RosterEntry → RosterEntry) : (p.onRosterEntry v f).scan = p.scan := rfl
@[simp] theorem Part.onRosterEntry_engine (p : Part) (v : VolunteerIx) (f : RosterEntry → RosterEntry) : (p.onRosterEntry v f).engine = p.engine := rfl
@[simp] theorem Part.onRosterEntry_notify (p : Part) (v : VolunteerIx) (f : RosterEntry → RosterEntry) : (p.onRosterEntry v f).notify = p.notify := rfl
@[simp] theorem Part.onRosterEntry_check (p : Part) (v : VolunteerIx) (f : RosterEntry → RosterEntry) : (p.onRosterEntry v f).check = p.check := rfl

@[simp] theorem Part.onStanding_pins (p : Part) (v : VolunteerIx) (f : Standing → Standing) : (p.onStanding v f).pins = p.pins := rfl
@[simp] theorem Part.onStanding_bus (p : Part) (v : VolunteerIx) (f : Standing → Standing) : (p.onStanding v f).bus = p.bus := rfl
@[simp] theorem Part.onStanding_mem (p : Part) (v : VolunteerIx) (f : Standing → Standing) : (p.onStanding v f).mem = p.mem := rfl
@[simp] theorem Part.onStanding_settings (p : Part) (v : VolunteerIx) (f : Standing → Standing) : (p.onStanding v f).settings = p.settings := rfl
@[simp] theorem Part.onStanding_roster (p : Part) (v : VolunteerIx) (f : Standing → Standing) : (p.onStanding v f).roster = p.roster := rfl
@[simp] theorem Part.onStanding_units (p : Part) (v : VolunteerIx) (f : Standing → Standing) : (p.onStanding v f).units = p.units := rfl
@[simp] theorem Part.onStanding_scan (p : Part) (v : VolunteerIx) (f : Standing → Standing) : (p.onStanding v f).scan = p.scan := rfl
@[simp] theorem Part.onStanding_notify (p : Part) (v : VolunteerIx) (f : Standing → Standing) : (p.onStanding v f).notify = p.notify := rfl
@[simp] theorem Part.onStanding_check (p : Part) (v : VolunteerIx) (f : Standing → Standing) : (p.onStanding v f).check = p.check := rfl

@[simp] theorem Part.onIncident_pins (p : Part) (s : Slot) (f : Incident → Incident) : (p.onIncident s f).pins = p.pins := rfl
@[simp] theorem Part.onIncident_bus (p : Part) (s : Slot) (f : Incident → Incident) : (p.onIncident s f).bus = p.bus := rfl
@[simp] theorem Part.onIncident_mem (p : Part) (s : Slot) (f : Incident → Incident) : (p.onIncident s f).mem = p.mem := rfl
@[simp] theorem Part.onIncident_settings (p : Part) (s : Slot) (f : Incident → Incident) : (p.onIncident s f).settings = p.settings := rfl
@[simp] theorem Part.onIncident_roster (p : Part) (s : Slot) (f : Incident → Incident) : (p.onIncident s f).roster = p.roster := rfl
@[simp] theorem Part.onIncident_units (p : Part) (s : Slot) (f : Incident → Incident) : (p.onIncident s f).units = p.units := rfl
@[simp] theorem Part.onIncident_scan (p : Part) (s : Slot) (f : Incident → Incident) : (p.onIncident s f).scan = p.scan := rfl
@[simp] theorem Part.onIncident_notify (p : Part) (s : Slot) (f : Incident → Incident) : (p.onIncident s f).notify = p.notify := rfl
@[simp] theorem Part.onIncident_check (p : Part) (s : Slot) (f : Incident → Incident) : (p.onIncident s f).check = p.check := rfl

@[simp] theorem Part.onUnit_pins (p : Part) (u : UnitIx) (f : UnitEntry → UnitEntry) : (p.onUnit u f).pins = p.pins := rfl
@[simp] theorem Part.onUnit_bus (p : Part) (u : UnitIx) (f : UnitEntry → UnitEntry) : (p.onUnit u f).bus = p.bus := rfl
@[simp] theorem Part.onUnit_mem (p : Part) (u : UnitIx) (f : UnitEntry → UnitEntry) : (p.onUnit u f).mem = p.mem := rfl
@[simp] theorem Part.onUnit_settings (p : Part) (u : UnitIx) (f : UnitEntry → UnitEntry) : (p.onUnit u f).settings = p.settings := rfl
@[simp] theorem Part.onUnit_roster (p : Part) (u : UnitIx) (f : UnitEntry → UnitEntry) : (p.onUnit u f).roster = p.roster := rfl
@[simp] theorem Part.onUnit_engine (p : Part) (u : UnitIx) (f : UnitEntry → UnitEntry) : (p.onUnit u f).engine = p.engine := rfl
@[simp] theorem Part.onUnit_notify (p : Part) (u : UnitIx) (f : UnitEntry → UnitEntry) : (p.onUnit u f).notify = p.notify := rfl
@[simp] theorem Part.onUnit_check (p : Part) (u : UnitIx) (f : UnitEntry → UnitEntry) : (p.onUnit u f).check = p.check := rfl

@[simp] theorem Part.report_pins (p : Part) (x : Source) : (p.report x).pins = p.pins := rfl
@[simp] theorem Part.report_bus (p : Part) (x : Source) : (p.report x).bus = p.bus := rfl
@[simp] theorem Part.report_mem (p : Part) (x : Source) : (p.report x).mem = p.mem := rfl
@[simp] theorem Part.report_settings (p : Part) (x : Source) : (p.report x).settings = p.settings := rfl
@[simp] theorem Part.report_roster (p : Part) (x : Source) : (p.report x).roster = p.roster := rfl
@[simp] theorem Part.report_units (p : Part) (x : Source) : (p.report x).units = p.units := rfl
@[simp] theorem Part.report_scan (p : Part) (x : Source) : (p.report x).scan = p.scan := rfl
@[simp] theorem Part.report_engine (p : Part) (x : Source) : (p.report x).engine = p.engine := rfl
@[simp] theorem Part.report_check (p : Part) (x : Source) : (p.report x).check = p.check := rfl

@[simp] theorem Part.viewMemory_pins (p : Part) (a : Nat) (w : Bool) (x : Word) : (p.viewMemory a w x).pins = p.pins := rfl
@[simp] theorem Part.viewMemory_mem (p : Part) (a : Nat) (w : Bool) (x : Word) : (p.viewMemory a w x).mem = p.mem := rfl
@[simp] theorem Part.viewMemory_settings (p : Part) (a : Nat) (w : Bool) (x : Word) : (p.viewMemory a w x).settings = p.settings := rfl
@[simp] theorem Part.viewMemory_roster (p : Part) (a : Nat) (w : Bool) (x : Word) : (p.viewMemory a w x).roster = p.roster := rfl
@[simp] theorem Part.viewMemory_units (p : Part) (a : Nat) (w : Bool) (x : Word) : (p.viewMemory a w x).units = p.units := rfl
@[simp] theorem Part.viewMemory_scan (p : Part) (a : Nat) (w : Bool) (x : Word) : (p.viewMemory a w x).scan = p.scan := rfl
@[simp] theorem Part.viewMemory_engine (p : Part) (a : Nat) (w : Bool) (x : Word) : (p.viewMemory a w x).engine = p.engine := rfl
@[simp] theorem Part.viewMemory_notify (p : Part) (a : Nat) (w : Bool) (x : Word) : (p.viewMemory a w x).notify = p.notify := rfl
@[simp] theorem Part.viewMemory_check (p : Part) (a : Nat) (w : Bool) (x : Word) : (p.viewMemory a w x).check = p.check := rfl

@[simp] theorem Part.viewBoard_pins (p : Part) (w : Bool) (x : Word) : (p.viewBoard w x).pins = p.pins := rfl
@[simp] theorem Part.viewBoard_mem (p : Part) (w : Bool) (x : Word) : (p.viewBoard w x).mem = p.mem := rfl
@[simp] theorem Part.viewBoard_settings (p : Part) (w : Bool) (x : Word) : (p.viewBoard w x).settings = p.settings := rfl
@[simp] theorem Part.viewBoard_roster (p : Part) (w : Bool) (x : Word) : (p.viewBoard w x).roster = p.roster := rfl
@[simp] theorem Part.viewBoard_units (p : Part) (w : Bool) (x : Word) : (p.viewBoard w x).units = p.units := rfl
@[simp] theorem Part.viewBoard_scan (p : Part) (w : Bool) (x : Word) : (p.viewBoard w x).scan = p.scan := rfl
@[simp] theorem Part.viewBoard_engine (p : Part) (w : Bool) (x : Word) : (p.viewBoard w x).engine = p.engine := rfl
@[simp] theorem Part.viewBoard_notify (p : Part) (w : Bool) (x : Word) : (p.viewBoard w x).notify = p.notify := rfl
@[simp] theorem Part.viewBoard_check (p : Part) (w : Bool) (x : Word) : (p.viewBoard w x).check = p.check := rfl

@[simp] theorem Part.ramByteWrite_pins (p : Part) (a : Nat) (x : Byte) : (p.ramByteWrite a x).pins = p.pins := rfl
@[simp] theorem Part.ramByteWrite_settings (p : Part) (a : Nat) (x : Byte) : (p.ramByteWrite a x).settings = p.settings := rfl
@[simp] theorem Part.ramByteWrite_roster (p : Part) (a : Nat) (x : Byte) : (p.ramByteWrite a x).roster = p.roster := rfl
@[simp] theorem Part.ramByteWrite_units (p : Part) (a : Nat) (x : Byte) : (p.ramByteWrite a x).units = p.units := rfl
@[simp] theorem Part.ramByteWrite_scan (p : Part) (a : Nat) (x : Byte) : (p.ramByteWrite a x).scan = p.scan := rfl
@[simp] theorem Part.ramByteWrite_engine (p : Part) (a : Nat) (x : Byte) : (p.ramByteWrite a x).engine = p.engine := rfl
@[simp] theorem Part.ramByteWrite_notify (p : Part) (a : Nat) (x : Byte) : (p.ramByteWrite a x).notify = p.notify := rfl
@[simp] theorem Part.ramByteWrite_check (p : Part) (a : Nat) (x : Byte) : (p.ramByteWrite a x).check = p.check := rfl

@[simp] theorem Part.ramWordWrite_pins (p : Part) (a : Nat) (x : Word) : (p.ramWordWrite a x).pins = p.pins := rfl
@[simp] theorem Part.ramWordWrite_settings (p : Part) (a : Nat) (x : Word) : (p.ramWordWrite a x).settings = p.settings := rfl
@[simp] theorem Part.ramWordWrite_roster (p : Part) (a : Nat) (x : Word) : (p.ramWordWrite a x).roster = p.roster := rfl
@[simp] theorem Part.ramWordWrite_units (p : Part) (a : Nat) (x : Word) : (p.ramWordWrite a x).units = p.units := rfl
@[simp] theorem Part.ramWordWrite_scan (p : Part) (a : Nat) (x : Word) : (p.ramWordWrite a x).scan = p.scan := rfl
@[simp] theorem Part.ramWordWrite_engine (p : Part) (a : Nat) (x : Word) : (p.ramWordWrite a x).engine = p.engine := rfl
@[simp] theorem Part.ramWordWrite_notify (p : Part) (a : Nat) (x : Word) : (p.ramWordWrite a x).notify = p.notify := rfl
@[simp] theorem Part.ramWordWrite_check (p : Part) (a : Nat) (x : Word) : (p.ramWordWrite a x).check = p.check := rfl

@[simp] theorem Part.ramByteRead_pins (p : Part) (a : Nat) : (p.ramByteRead a).pins = p.pins := rfl
@[simp] theorem Part.ramByteRead_mem (p : Part) (a : Nat) : (p.ramByteRead a).mem = p.mem := rfl
@[simp] theorem Part.ramByteRead_settings (p : Part) (a : Nat) : (p.ramByteRead a).settings = p.settings := rfl
@[simp] theorem Part.ramByteRead_roster (p : Part) (a : Nat) : (p.ramByteRead a).roster = p.roster := rfl
@[simp] theorem Part.ramByteRead_units (p : Part) (a : Nat) : (p.ramByteRead a).units = p.units := rfl
@[simp] theorem Part.ramByteRead_scan (p : Part) (a : Nat) : (p.ramByteRead a).scan = p.scan := rfl
@[simp] theorem Part.ramByteRead_engine (p : Part) (a : Nat) : (p.ramByteRead a).engine = p.engine := rfl
@[simp] theorem Part.ramByteRead_notify (p : Part) (a : Nat) : (p.ramByteRead a).notify = p.notify := rfl
@[simp] theorem Part.ramByteRead_check (p : Part) (a : Nat) : (p.ramByteRead a).check = p.check := rfl

@[simp] theorem Part.ramWordRead_pins (p : Part) (a : Nat) : (p.ramWordRead a).pins = p.pins := rfl
@[simp] theorem Part.ramWordRead_mem (p : Part) (a : Nat) : (p.ramWordRead a).mem = p.mem := rfl
@[simp] theorem Part.ramWordRead_settings (p : Part) (a : Nat) : (p.ramWordRead a).settings = p.settings := rfl
@[simp] theorem Part.ramWordRead_roster (p : Part) (a : Nat) : (p.ramWordRead a).roster = p.roster := rfl
@[simp] theorem Part.ramWordRead_units (p : Part) (a : Nat) : (p.ramWordRead a).units = p.units := rfl
@[simp] theorem Part.ramWordRead_scan (p : Part) (a : Nat) : (p.ramWordRead a).scan = p.scan := rfl
@[simp] theorem Part.ramWordRead_engine (p : Part) (a : Nat) : (p.ramWordRead a).engine = p.engine := rfl
@[simp] theorem Part.ramWordRead_notify (p : Part) (a : Nat) : (p.ramWordRead a).notify = p.notify := rfl
@[simp] theorem Part.ramWordRead_check (p : Part) (a : Nat) : (p.ramWordRead a).check = p.check := rfl

@[simp] theorem Part.recordError_pins (p : Part) (k : ErrorKind) (n : Nat) : (p.recordError k n).pins = p.pins := rfl
@[simp] theorem Part.recordError_bus (p : Part) (k : ErrorKind) (n : Nat) : (p.recordError k n).bus = p.bus := rfl
@[simp] theorem Part.recordError_mem (p : Part) (k : ErrorKind) (n : Nat) : (p.recordError k n).mem = p.mem := rfl
@[simp] theorem Part.recordError_roster (p : Part) (k : ErrorKind) (n : Nat) : (p.recordError k n).roster = p.roster := rfl
@[simp] theorem Part.recordError_units (p : Part) (k : ErrorKind) (n : Nat) : (p.recordError k n).units = p.units := rfl
@[simp] theorem Part.recordError_scan (p : Part) (k : ErrorKind) (n : Nat) : (p.recordError k n).scan = p.scan := rfl
@[simp] theorem Part.recordError_engine (p : Part) (k : ErrorKind) (n : Nat) : (p.recordError k n).engine = p.engine := rfl
@[simp] theorem Part.recordError_check (p : Part) (k : ErrorKind) (n : Nat) : (p.recordError k n).check = p.check := rfl

@[simp] theorem Part.recordReject_pins (p : Part) (v : VolunteerIx) (w : RejectReason) (x : RejectPhase) : (p.recordReject v w x).pins = p.pins := rfl
@[simp] theorem Part.recordReject_bus (p : Part) (v : VolunteerIx) (w : RejectReason) (x : RejectPhase) : (p.recordReject v w x).bus = p.bus := rfl
@[simp] theorem Part.recordReject_mem (p : Part) (v : VolunteerIx) (w : RejectReason) (x : RejectPhase) : (p.recordReject v w x).mem = p.mem := rfl
@[simp] theorem Part.recordReject_settings (p : Part) (v : VolunteerIx) (w : RejectReason) (x : RejectPhase) : (p.recordReject v w x).settings = p.settings := rfl
@[simp] theorem Part.recordReject_units (p : Part) (v : VolunteerIx) (w : RejectReason) (x : RejectPhase) : (p.recordReject v w x).units = p.units := rfl
@[simp] theorem Part.recordReject_scan (p : Part) (v : VolunteerIx) (w : RejectReason) (x : RejectPhase) : (p.recordReject v w x).scan = p.scan := rfl
@[simp] theorem Part.recordReject_engine (p : Part) (v : VolunteerIx) (w : RejectReason) (x : RejectPhase) : (p.recordReject v w x).engine = p.engine := rfl
@[simp] theorem Part.recordReject_check (p : Part) (v : VolunteerIx) (w : RejectReason) (x : RejectPhase) : (p.recordReject v w x).check = p.check := rfl

@[simp] theorem Part.countStale_pins (p : Part) : (p.countStale).pins = p.pins := rfl
@[simp] theorem Part.countStale_bus (p : Part) : (p.countStale).bus = p.bus := rfl
@[simp] theorem Part.countStale_mem (p : Part) : (p.countStale).mem = p.mem := rfl
@[simp] theorem Part.countStale_settings (p : Part) : (p.countStale).settings = p.settings := rfl
@[simp] theorem Part.countStale_roster (p : Part) : (p.countStale).roster = p.roster := rfl
@[simp] theorem Part.countStale_units (p : Part) : (p.countStale).units = p.units := rfl
@[simp] theorem Part.countStale_scan (p : Part) : (p.countStale).scan = p.scan := rfl
@[simp] theorem Part.countStale_check (p : Part) : (p.countStale).check = p.check := rfl

@[simp] theorem Part.countForced_pins (p : Part) : (p.countForced).pins = p.pins := rfl
@[simp] theorem Part.countForced_bus (p : Part) : (p.countForced).bus = p.bus := rfl
@[simp] theorem Part.countForced_mem (p : Part) : (p.countForced).mem = p.mem := rfl
@[simp] theorem Part.countForced_settings (p : Part) : (p.countForced).settings = p.settings := rfl
@[simp] theorem Part.countForced_roster (p : Part) : (p.countForced).roster = p.roster := rfl
@[simp] theorem Part.countForced_units (p : Part) : (p.countForced).units = p.units := rfl
@[simp] theorem Part.countForced_scan (p : Part) : (p.countForced).scan = p.scan := rfl
@[simp] theorem Part.countForced_engine (p : Part) : (p.countForced).engine = p.engine := rfl

@[simp] theorem Part.countNotReady_pins (p : Part) : (p.countNotReady).pins = p.pins := rfl
@[simp] theorem Part.countNotReady_bus (p : Part) : (p.countNotReady).bus = p.bus := rfl
@[simp] theorem Part.countNotReady_mem (p : Part) : (p.countNotReady).mem = p.mem := rfl
@[simp] theorem Part.countNotReady_settings (p : Part) : (p.countNotReady).settings = p.settings := rfl
@[simp] theorem Part.countNotReady_roster (p : Part) : (p.countNotReady).roster = p.roster := rfl
@[simp] theorem Part.countNotReady_units (p : Part) : (p.countNotReady).units = p.units := rfl
@[simp] theorem Part.countNotReady_scan (p : Part) : (p.countNotReady).scan = p.scan := rfl
@[simp] theorem Part.countNotReady_engine (p : Part) : (p.countNotReady).engine = p.engine := rfl

@[simp] theorem Part.countCorrupt_pins (p : Part) : (p.countCorrupt).pins = p.pins := rfl
@[simp] theorem Part.countCorrupt_bus (p : Part) : (p.countCorrupt).bus = p.bus := rfl
@[simp] theorem Part.countCorrupt_mem (p : Part) : (p.countCorrupt).mem = p.mem := rfl
@[simp] theorem Part.countCorrupt_settings (p : Part) : (p.countCorrupt).settings = p.settings := rfl
@[simp] theorem Part.countCorrupt_roster (p : Part) : (p.countCorrupt).roster = p.roster := rfl
@[simp] theorem Part.countCorrupt_units (p : Part) : (p.countCorrupt).units = p.units := rfl
@[simp] theorem Part.countCorrupt_scan (p : Part) : (p.countCorrupt).scan = p.scan := rfl
@[simp] theorem Part.countCorrupt_engine (p : Part) : (p.countCorrupt).engine = p.engine := rfl
@[simp] theorem Part.countCorrupt_notify (p : Part) : (p.countCorrupt).notify = p.notify := rfl

@[simp] theorem Part.countSilent_pins (p : Part) : (p.countSilent).pins = p.pins := rfl
@[simp] theorem Part.countSilent_bus (p : Part) : (p.countSilent).bus = p.bus := rfl
@[simp] theorem Part.countSilent_mem (p : Part) : (p.countSilent).mem = p.mem := rfl
@[simp] theorem Part.countSilent_settings (p : Part) : (p.countSilent).settings = p.settings := rfl
@[simp] theorem Part.countSilent_roster (p : Part) : (p.countSilent).roster = p.roster := rfl
@[simp] theorem Part.countSilent_units (p : Part) : (p.countSilent).units = p.units := rfl
@[simp] theorem Part.countSilent_scan (p : Part) : (p.countSilent).scan = p.scan := rfl
@[simp] theorem Part.countSilent_engine (p : Part) : (p.countSilent).engine = p.engine := rfl

@[simp] theorem Part.countOverrun_pins (p : Part) : (p.countOverrun).pins = p.pins := rfl
@[simp] theorem Part.countOverrun_bus (p : Part) : (p.countOverrun).bus = p.bus := rfl
@[simp] theorem Part.countOverrun_mem (p : Part) : (p.countOverrun).mem = p.mem := rfl
@[simp] theorem Part.countOverrun_settings (p : Part) : (p.countOverrun).settings = p.settings := rfl
@[simp] theorem Part.countOverrun_roster (p : Part) : (p.countOverrun).roster = p.roster := rfl
@[simp] theorem Part.countOverrun_units (p : Part) : (p.countOverrun).units = p.units := rfl
@[simp] theorem Part.countOverrun_scan (p : Part) : (p.countOverrun).scan = p.scan := rfl
@[simp] theorem Part.countOverrun_engine (p : Part) : (p.countOverrun).engine = p.engine := rfl

@[simp] theorem Part.countMatched_pins (p : Part) : (p.countMatched).pins = p.pins := rfl
@[simp] theorem Part.countMatched_bus (p : Part) : (p.countMatched).bus = p.bus := rfl
@[simp] theorem Part.countMatched_mem (p : Part) : (p.countMatched).mem = p.mem := rfl
@[simp] theorem Part.countMatched_settings (p : Part) : (p.countMatched).settings = p.settings := rfl
@[simp] theorem Part.countMatched_roster (p : Part) : (p.countMatched).roster = p.roster := rfl
@[simp] theorem Part.countMatched_units (p : Part) : (p.countMatched).units = p.units := rfl
@[simp] theorem Part.countMatched_scan (p : Part) : (p.countMatched).scan = p.scan := rfl
@[simp] theorem Part.countMatched_engine (p : Part) : (p.countMatched).engine = p.engine := rfl
@[simp] theorem Part.countMatched_notify (p : Part) : (p.countMatched).notify = p.notify := rfl

@[simp] theorem Part.countMismatched_pins (p : Part) (n : Nat) : (p.countMismatched n).pins = p.pins := rfl
@[simp] theorem Part.countMismatched_bus (p : Part) (n : Nat) : (p.countMismatched n).bus = p.bus := rfl
@[simp] theorem Part.countMismatched_mem (p : Part) (n : Nat) : (p.countMismatched n).mem = p.mem := rfl
@[simp] theorem Part.countMismatched_settings (p : Part) (n : Nat) : (p.countMismatched n).settings = p.settings := rfl
@[simp] theorem Part.countMismatched_roster (p : Part) (n : Nat) : (p.countMismatched n).roster = p.roster := rfl
@[simp] theorem Part.countMismatched_units (p : Part) (n : Nat) : (p.countMismatched n).units = p.units := rfl
@[simp] theorem Part.countMismatched_scan (p : Part) (n : Nat) : (p.countMismatched n).scan = p.scan := rfl
@[simp] theorem Part.countMismatched_engine (p : Part) (n : Nat) : (p.countMismatched n).engine = p.engine := rfl
@[simp] theorem Part.countMismatched_notify (p : Part) (n : Nat) : (p.countMismatched n).notify = p.notify := rfl

@[simp] theorem Part.setPair_pins (p : Part) (x : Option (Nat × Byte)) : (p.setPair x).pins = p.pins := rfl
@[simp] theorem Part.setPair_mem (p : Part) (x : Option (Nat × Byte)) : (p.setPair x).mem = p.mem := rfl
@[simp] theorem Part.setPair_settings (p : Part) (x : Option (Nat × Byte)) : (p.setPair x).settings = p.settings := rfl
@[simp] theorem Part.setPair_roster (p : Part) (x : Option (Nat × Byte)) : (p.setPair x).roster = p.roster := rfl
@[simp] theorem Part.setPair_units (p : Part) (x : Option (Nat × Byte)) : (p.setPair x).units = p.units := rfl
@[simp] theorem Part.setPair_scan (p : Part) (x : Option (Nat × Byte)) : (p.setPair x).scan = p.scan := rfl
@[simp] theorem Part.setPair_engine (p : Part) (x : Option (Nat × Byte)) : (p.setPair x).engine = p.engine := rfl
@[simp] theorem Part.setPair_notify (p : Part) (x : Option (Nat × Byte)) : (p.setPair x).notify = p.notify := rfl
@[simp] theorem Part.setPair_check (p : Part) (x : Option (Nat × Byte)) : (p.setPair x).check = p.check := rfl

@[simp] theorem Part.setReadHigh_pins (p : Part) (x : Option (Nat × Byte)) : (p.setReadHigh x).pins = p.pins := rfl
@[simp] theorem Part.setReadHigh_mem (p : Part) (x : Option (Nat × Byte)) : (p.setReadHigh x).mem = p.mem := rfl
@[simp] theorem Part.setReadHigh_settings (p : Part) (x : Option (Nat × Byte)) : (p.setReadHigh x).settings = p.settings := rfl
@[simp] theorem Part.setReadHigh_roster (p : Part) (x : Option (Nat × Byte)) : (p.setReadHigh x).roster = p.roster := rfl
@[simp] theorem Part.setReadHigh_units (p : Part) (x : Option (Nat × Byte)) : (p.setReadHigh x).units = p.units := rfl
@[simp] theorem Part.setReadHigh_scan (p : Part) (x : Option (Nat × Byte)) : (p.setReadHigh x).scan = p.scan := rfl
@[simp] theorem Part.setReadHigh_engine (p : Part) (x : Option (Nat × Byte)) : (p.setReadHigh x).engine = p.engine := rfl
@[simp] theorem Part.setReadHigh_notify (p : Part) (x : Option (Nat × Byte)) : (p.setReadHigh x).notify = p.notify := rfl
@[simp] theorem Part.setReadHigh_check (p : Part) (x : Option (Nat × Byte)) : (p.setReadHigh x).check = p.check := rfl

@[simp] theorem Part.capture_pins (p : Part) (b : BlockName) : (p.capture b).pins = p.pins := rfl
@[simp] theorem Part.capture_mem (p : Part) (b : BlockName) : (p.capture b).mem = p.mem := rfl
@[simp] theorem Part.capture_settings (p : Part) (b : BlockName) : (p.capture b).settings = p.settings := rfl
@[simp] theorem Part.capture_roster (p : Part) (b : BlockName) : (p.capture b).roster = p.roster := rfl
@[simp] theorem Part.capture_units (p : Part) (b : BlockName) : (p.capture b).units = p.units := rfl
@[simp] theorem Part.capture_scan (p : Part) (b : BlockName) : (p.capture b).scan = p.scan := rfl
@[simp] theorem Part.capture_engine (p : Part) (b : BlockName) : (p.capture b).engine = p.engine := rfl
@[simp] theorem Part.capture_notify (p : Part) (b : BlockName) : (p.capture b).notify = p.notify := rfl
@[simp] theorem Part.capture_check (p : Part) (b : BlockName) : (p.capture b).check = p.check := rfl

@[simp] theorem Part.release_pins (p : Part) : (p.release).pins = p.pins := rfl
@[simp] theorem Part.release_mem (p : Part) : (p.release).mem = p.mem := rfl
@[simp] theorem Part.release_settings (p : Part) : (p.release).settings = p.settings := rfl
@[simp] theorem Part.release_roster (p : Part) : (p.release).roster = p.roster := rfl
@[simp] theorem Part.release_units (p : Part) : (p.release).units = p.units := rfl
@[simp] theorem Part.release_scan (p : Part) : (p.release).scan = p.scan := rfl
@[simp] theorem Part.release_engine (p : Part) : (p.release).engine = p.engine := rfl
@[simp] theorem Part.release_notify (p : Part) : (p.release).notify = p.notify := rfl
@[simp] theorem Part.release_check (p : Part) : (p.release).check = p.check := rfl

@[simp] theorem Part.beginBoardWrite_pins (p : Part) : (p.beginBoardWrite).pins = p.pins := rfl
@[simp] theorem Part.beginBoardWrite_mem (p : Part) : (p.beginBoardWrite).mem = p.mem := rfl
@[simp] theorem Part.beginBoardWrite_settings (p : Part) : (p.beginBoardWrite).settings = p.settings := rfl
@[simp] theorem Part.beginBoardWrite_roster (p : Part) : (p.beginBoardWrite).roster = p.roster := rfl
@[simp] theorem Part.beginBoardWrite_units (p : Part) : (p.beginBoardWrite).units = p.units := rfl
@[simp] theorem Part.beginBoardWrite_scan (p : Part) : (p.beginBoardWrite).scan = p.scan := rfl
@[simp] theorem Part.beginBoardWrite_engine (p : Part) : (p.beginBoardWrite).engine = p.engine := rfl
@[simp] theorem Part.beginBoardWrite_notify (p : Part) : (p.beginBoardWrite).notify = p.notify := rfl
@[simp] theorem Part.beginBoardWrite_check (p : Part) : (p.beginBoardWrite).check = p.check := rfl

/-! ## The updated block -/

@[simp] theorem Part.withLines_pins (p : Part) (ln : Lines) :
    (p.withLines ln).pins = { p.pins with rdy := ln.rdy, cd := ln.cd } := rfl
@[simp] theorem Part.onRosterEntry_roster (p : Part) (v : VolunteerIx) (f : RosterEntry → RosterEntry) :
    (p.onRosterEntry v f).roster = { p.roster with entries := update p.roster.entries v f } := rfl
@[simp] theorem Part.onStanding_engine (p : Part) (v : VolunteerIx) (f : Standing → Standing) :
    (p.onStanding v f).engine = { p.engine with standing := update p.engine.standing v f } := rfl
@[simp] theorem Part.onIncident_engine (p : Part) (s : Slot) (f : Incident → Incident) :
    (p.onIncident s f).engine = { p.engine with incidents := update p.engine.incidents s f } := rfl
@[simp] theorem Part.onUnit_units (p : Part) (u : UnitIx) (f : UnitEntry → UnitEntry) :
    (p.onUnit u f).units = update p.units u f := rfl
@[simp] theorem Part.onUnit_scan (p : Part) (u : UnitIx) (f : UnitEntry → UnitEntry) :
    (p.onUnit u f).scan = { p.scan with urgent := judgeUrgent p.scan.urgent u (f p.units[u]).urgent } := rfl
@[simp] theorem Part.report_notify (p : Part) (x : Source) :
    (p.report x).notify = p.notify.onLine x.line fun n => n.latch x.bit := rfl
@[simp] theorem Part.viewMemory_bus (p : Part) (a : Nat) (w : Bool) (x : Word) :
    (p.viewMemory a w x).bus = { p.bus with view := { memSelected := true, memRead := !w, memWrite := w,
                                                      address := BitVec.ofNat 20 a, answer := x, waited := false } } := rfl
@[simp] theorem Part.viewBoard_bus (p : Part) (w : Bool) (x : Word) :
    (p.viewBoard w x).bus = { p.bus with view := { memSelected := false, memRead := false, memWrite := false,
                                                   address := 0, answer := x, waited := w } } := rfl
@[simp] theorem Part.ramByteWrite_mem (p : Part) (a : Nat) (x : Byte) :
    (p.ramByteWrite a x).mem = Memory.write p.mem a x := rfl
@[simp] theorem Part.ramWordWrite_mem (p : Part) (a : Nat) (w : Word) :
    (p.ramWordWrite a w).mem = Memory.write (Memory.write p.mem (2 * a) (lowByte w)) (2 * a + 1) (highByte w) := rfl
@[simp] theorem Part.recordError_settings (p : Part) (k : ErrorKind) (n : Nat) :
    (p.recordError k n).settings =
      { p.settings with error := { kind := k, offset := n, count := countUp 255 p.settings.error.count } } := rfl
@[simp] theorem Part.recordError_notify (p : Part) (k : ErrorKind) (n : Nat) :
    (p.recordError k n).notify = p.notify.onLine .b fun x => x.latch 7 := rfl
@[simp] theorem Part.recordReject_roster (p : Part) (v : VolunteerIx) (w : RejectReason) (x : RejectPhase) :
    (p.recordReject v w x).roster =
      { p.roster with reject := { volunteer := some v, reason := w, phase := x,
                                  count := countUp 255 p.roster.reject.count } } := rfl

/-! ## Tables -/

/-- An entry of an updated table. -/
@[simp] theorem update_getElem {α : Type} {n : Nat} (t : Vector α n) (i : Fin n) (f : α → α) (k : Nat) (h : k < n) :
    (update t i f)[k] = if k = i.val then f t[k] else t[k] := by
  rw [update, Vector.getElem_set]
  split
  · next e => subst e; simp
  · next e => rw [if_neg (fun x => e x.symm)]

theorem update_self {α : Type} {n : Nat} (t : Vector α n) (i : Fin n) (f : α → α) :
    (update t i f)[i] = f t[i] := by
  simp

theorem update_ne {α : Type} {n : Nat} (t : Vector α n) (i j : Fin n) (f : α → α) (h : j ≠ i) :
    (update t i f)[j] = t[j] := by
  have : j.val ≠ i.val := fun e => h (Fin.ext e)
  simp [this]

theorem update_get {α : Type} {n : Nat} (t : Vector α n) (i j : Fin n) (f : α → α) :
    (update t i f)[j] = if j = i then f t[j] else t[j] := by
  by_cases h : j = i
  · subst h; simp
  · rw [update_ne _ _ _ _ h, if_neg h]

end Sys2Proof.Machine
end

