-- ==== Sys2Proof/Laws/Frames.lean ====
section
/-! SUPPORT. Frames: the blocks that each operation of the part leaves as they were. -/

namespace Sys2Proof.Machine

/-- A fold whose step keeps a value keeps it. -/
theorem foldl_keeps {α β γ : Type} (g : β → γ) (f : β → α → β) (h : ∀ b a, g (f b a) = g b) (l : List α) (b : β) :
    g (l.foldl f b) = g b := by
  induction l generalizing b with
  | nil => rfl
  | cons a l ih => simp [List.foldl, ih, h]

/-! ## The Unit Table -/

@[simp] theorem Part.endHold_pins (p : Part) : (p.endHold).pins = p.pins := by
  simp only [Part.endHold]; repeat' split
  all_goals simp
@[simp] theorem Part.endHold_bus (p : Part) : (p.endHold).bus = p.bus := by
  simp only [Part.endHold]; repeat' split
  all_goals simp
@[simp] theorem Part.endHold_mem (p : Part) : (p.endHold).mem = p.mem := by
  simp only [Part.endHold]; repeat' split
  all_goals simp
@[simp] theorem Part.endHold_settings (p : Part) : (p.endHold).settings = p.settings := by
  simp only [Part.endHold]; repeat' split
  all_goals simp
@[simp] theorem Part.endHold_roster (p : Part) : (p.endHold).roster = p.roster := by
  simp only [Part.endHold]; repeat' split
  all_goals simp
@[simp] theorem Part.endHold_units (p : Part) : (p.endHold).units = p.units := by
  simp only [Part.endHold]; repeat' split
  all_goals simp
@[simp] theorem Part.endHold_engine (p : Part) : (p.endHold).engine = p.engine := by
  simp only [Part.endHold]; repeat' split
  all_goals simp
@[simp] theorem Part.endHold_notify (p : Part) : (p.endHold).notify = p.notify := by
  simp only [Part.endHold]; repeat' split
  all_goals simp
@[simp] theorem Part.endHold_check (p : Part) : (p.endHold).check = p.check := by
  simp only [Part.endHold]; repeat' split
  all_goals simp

@[simp] theorem Part.setMessage_pins (p : Part) (u : UnitIx) (s : Seat) (m : Message) : (p.setMessage u s m).pins = p.pins := by
  simp only [Part.setMessage]; repeat' split
  all_goals simp
@[simp] theorem Part.setMessage_bus (p : Part) (u : UnitIx) (s : Seat) (m : Message) : (p.setMessage u s m).bus = p.bus := by
  simp only [Part.setMessage]; repeat' split
  all_goals simp
@[simp] theorem Part.setMessage_mem (p : Part) (u : UnitIx) (s : Seat) (m : Message) : (p.setMessage u s m).mem = p.mem := by
  simp only [Part.setMessage]; repeat' split
  all_goals simp
@[simp] theorem Part.setMessage_settings (p : Part) (u : UnitIx) (s : Seat) (m : Message) : (p.setMessage u s m).settings = p.settings := by
  simp only [Part.setMessage]; repeat' split
  all_goals simp
@[simp] theorem Part.setMessage_roster (p : Part) (u : UnitIx) (s : Seat) (m : Message) : (p.setMessage u s m).roster = p.roster := by
  simp only [Part.setMessage]; repeat' split
  all_goals simp
@[simp] theorem Part.setMessage_engine (p : Part) (u : UnitIx) (s : Seat) (m : Message) : (p.setMessage u s m).engine = p.engine := by
  simp only [Part.setMessage]; repeat' split
  all_goals simp
@[simp] theorem Part.setMessage_notify (p : Part) (u : UnitIx) (s : Seat) (m : Message) : (p.setMessage u s m).notify = p.notify := by
  simp only [Part.setMessage]; repeat' split
  all_goals simp
@[simp] theorem Part.setMessage_check (p : Part) (u : UnitIx) (s : Seat) (m : Message) : (p.setMessage u s m).check = p.check := by
  simp only [Part.setMessage]; repeat' split
  all_goals simp

@[simp] theorem Part.tell_pins (p : Part) (v : VolunteerIx) (m : Message) : (p.tell v m).pins = p.pins := by
  simp only [Part.tell]; repeat' split
  all_goals simp
@[simp] theorem Part.tell_bus (p : Part) (v : VolunteerIx) (m : Message) : (p.tell v m).bus = p.bus := by
  simp only [Part.tell]; repeat' split
  all_goals simp
@[simp] theorem Part.tell_mem (p : Part) (v : VolunteerIx) (m : Message) : (p.tell v m).mem = p.mem := by
  simp only [Part.tell]; repeat' split
  all_goals simp
@[simp] theorem Part.tell_settings (p : Part) (v : VolunteerIx) (m : Message) : (p.tell v m).settings = p.settings := by
  simp only [Part.tell]; repeat' split
  all_goals simp
@[simp] theorem Part.tell_roster (p : Part) (v : VolunteerIx) (m : Message) : (p.tell v m).roster = p.roster := by
  simp only [Part.tell]; repeat' split
  all_goals simp
@[simp] theorem Part.tell_engine (p : Part) (v : VolunteerIx) (m : Message) : (p.tell v m).engine = p.engine := by
  simp only [Part.tell]; repeat' split
  all_goals simp
@[simp] theorem Part.tell_notify (p : Part) (v : VolunteerIx) (m : Message) : (p.tell v m).notify = p.notify := by
  simp only [Part.tell]; repeat' split
  all_goals simp
@[simp] theorem Part.tell_check (p : Part) (v : VolunteerIx) (m : Message) : (p.tell v m).check = p.check := by
  simp only [Part.tell]; repeat' split
  all_goals simp

@[simp] theorem Part.takeInquiryWord_pins (p : Part) (u : UnitIx) (w : Word) : (p.takeInquiryWord u w).pins = p.pins := by
  simp only [Part.takeInquiryWord]; repeat' split
  all_goals simp
@[simp] theorem Part.takeInquiryWord_bus (p : Part) (u : UnitIx) (w : Word) : (p.takeInquiryWord u w).bus = p.bus := by
  simp only [Part.takeInquiryWord]; repeat' split
  all_goals simp
@[simp] theorem Part.takeInquiryWord_mem (p : Part) (u : UnitIx) (w : Word) : (p.takeInquiryWord u w).mem = p.mem := by
  simp only [Part.takeInquiryWord]; repeat' split
  all_goals simp
@[simp] theorem Part.takeInquiryWord_roster (p : Part) (u : UnitIx) (w : Word) : (p.takeInquiryWord u w).roster = p.roster := by
  simp only [Part.takeInquiryWord]; repeat' split
  all_goals simp
@[simp] theorem Part.takeInquiryWord_engine (p : Part) (u : UnitIx) (w : Word) : (p.takeInquiryWord u w).engine = p.engine := by
  simp only [Part.takeInquiryWord]; repeat' split
  all_goals simp
@[simp] theorem Part.takeInquiryWord_check (p : Part) (u : UnitIx) (w : Word) : (p.takeInquiryWord u w).check = p.check := by
  simp only [Part.takeInquiryWord]; repeat' split
  all_goals simp

/-! ## The Roster Table -/

@[simp] theorem Part.applyRecord_pins (p : Part) (v : VolunteerIx) (r : Record) : (p.applyRecord v r).pins = p.pins := by
  simp [Part.applyRecord]
@[simp] theorem Part.applyRecord_bus (p : Part) (v : VolunteerIx) (r : Record) : (p.applyRecord v r).bus = p.bus := by
  simp [Part.applyRecord]
@[simp] theorem Part.applyRecord_mem (p : Part) (v : VolunteerIx) (r : Record) : (p.applyRecord v r).mem = p.mem := by
  simp [Part.applyRecord]
@[simp] theorem Part.applyRecord_settings (p : Part) (v : VolunteerIx) (r : Record) : (p.applyRecord v r).settings = p.settings := by
  simp [Part.applyRecord]
@[simp] theorem Part.applyRecord_units (p : Part) (v : VolunteerIx) (r : Record) : (p.applyRecord v r).units = p.units := by
  simp [Part.applyRecord]
@[simp] theorem Part.applyRecord_scan (p : Part) (v : VolunteerIx) (r : Record) : (p.applyRecord v r).scan = p.scan := by
  simp [Part.applyRecord]
@[simp] theorem Part.applyRecord_engine (p : Part) (v : VolunteerIx) (r : Record) : (p.applyRecord v r).engine = p.engine := by
  simp [Part.applyRecord]
@[simp] theorem Part.applyRecord_notify (p : Part) (v : VolunteerIx) (r : Record) : (p.applyRecord v r).notify = p.notify := by
  simp [Part.applyRecord]
@[simp] theorem Part.applyRecord_check (p : Part) (v : VolunteerIx) (r : Record) : (p.applyRecord v r).check = p.check := by
  simp [Part.applyRecord]

@[simp] theorem Part.actOnPending_pins (p : Part) (v : VolunteerIx) : (p.actOnPending v).pins = p.pins := by
  simp only [Part.actOnPending]; repeat' split
  all_goals simp
@[simp] theorem Part.actOnPending_bus (p : Part) (v : VolunteerIx) : (p.actOnPending v).bus = p.bus := by
  simp only [Part.actOnPending]; repeat' split
  all_goals simp
@[simp] theorem Part.actOnPending_mem (p : Part) (v : VolunteerIx) : (p.actOnPending v).mem = p.mem := by
  simp only [Part.actOnPending]; repeat' split
  all_goals simp
@[simp] theorem Part.actOnPending_settings (p : Part) (v : VolunteerIx) : (p.actOnPending v).settings = p.settings := by
  simp only [Part.actOnPending]; repeat' split
  all_goals simp
@[simp] theorem Part.actOnPending_units (p : Part) (v : VolunteerIx) : (p.actOnPending v).units = p.units := by
  simp only [Part.actOnPending]; repeat' split
  all_goals simp
@[simp] theorem Part.actOnPending_scan (p : Part) (v : VolunteerIx) : (p.actOnPending v).scan = p.scan := by
  simp only [Part.actOnPending]; repeat' split
  all_goals simp
@[simp] theorem Part.actOnPending_engine (p : Part) (v : VolunteerIx) : (p.actOnPending v).engine = p.engine := by
  simp only [Part.actOnPending]; repeat' split
  all_goals simp
@[simp] theorem Part.actOnPending_check (p : Part) (v : VolunteerIx) : (p.actOnPending v).check = p.check := by
  simp only [Part.actOnPending]; repeat' split
  all_goals simp

@[simp] theorem Part.actOnPendings_pins (p : Part) (l : List VolunteerIx) : (p.actOnPendings l).pins = p.pins := by
  unfold Part.actOnPendings; exact foldl_keeps Part.pins _ (fun _ _ => by simp) _ _
@[simp] theorem Part.actOnPendings_bus (p : Part) (l : List VolunteerIx) : (p.actOnPendings l).bus = p.bus := by
  unfold Part.actOnPendings; exact foldl_keeps Part.bus _ (fun _ _ => by simp) _ _
@[simp] theorem Part.actOnPendings_mem (p : Part) (l : List VolunteerIx) : (p.actOnPendings l).mem = p.mem := by
  unfold Part.actOnPendings; exact foldl_keeps Part.mem _ (fun _ _ => by simp) _ _
@[simp] theorem Part.actOnPendings_settings (p : Part) (l : List VolunteerIx) : (p.actOnPendings l).settings = p.settings := by
  unfold Part.actOnPendings; exact foldl_keeps Part.settings _ (fun _ _ => by simp) _ _
@[simp] theorem Part.actOnPendings_units (p : Part) (l : List VolunteerIx) : (p.actOnPendings l).units = p.units := by
  unfold Part.actOnPendings; exact foldl_keeps Part.units _ (fun _ _ => by simp) _ _
@[simp] theorem Part.actOnPendings_scan (p : Part) (l : List VolunteerIx) : (p.actOnPendings l).scan = p.scan := by
  unfold Part.actOnPendings; exact foldl_keeps Part.scan _ (fun _ _ => by simp) _ _
@[simp] theorem Part.actOnPendings_engine (p : Part) (l : List VolunteerIx) : (p.actOnPendings l).engine = p.engine := by
  unfold Part.actOnPendings; exact foldl_keeps Part.engine _ (fun _ _ => by simp) _ _
@[simp] theorem Part.actOnPendings_check (p : Part) (l : List VolunteerIx) : (p.actOnPendings l).check = p.check := by
  unfold Part.actOnPendings; exact foldl_keeps Part.check _ (fun _ _ => by simp) _ _

/-! ## The Callout Engine -/

@[simp] theorem Part.offer_pins (p : Part) (v : VolunteerIx) (s : Slot) : (p.offer v s).pins = p.pins := by
  simp [Part.offer]
@[simp] theorem Part.offer_bus (p : Part) (v : VolunteerIx) (s : Slot) : (p.offer v s).bus = p.bus := by
  simp [Part.offer]
@[simp] theorem Part.offer_mem (p : Part) (v : VolunteerIx) (s : Slot) : (p.offer v s).mem = p.mem := by
  simp [Part.offer]
@[simp] theorem Part.offer_settings (p : Part) (v : VolunteerIx) (s : Slot) : (p.offer v s).settings = p.settings := by
  simp [Part.offer]
@[simp] theorem Part.offer_roster (p : Part) (v : VolunteerIx) (s : Slot) : (p.offer v s).roster = p.roster := by
  simp [Part.offer]
@[simp] theorem Part.offer_notify (p : Part) (v : VolunteerIx) (s : Slot) : (p.offer v s).notify = p.notify := by
  simp [Part.offer]
@[simp] theorem Part.offer_check (p : Part) (v : VolunteerIx) (s : Slot) : (p.offer v s).check = p.check := by
  simp [Part.offer]

@[simp] theorem Part.countOutOfReach_pins (p : Part) (l : List Slot) : (p.countOutOfReach l).pins = p.pins := by
  unfold Part.countOutOfReach; exact foldl_keeps Part.pins _ (fun _ _ => by simp) _ _
@[simp] theorem Part.countOutOfReach_bus (p : Part) (l : List Slot) : (p.countOutOfReach l).bus = p.bus := by
  unfold Part.countOutOfReach; exact foldl_keeps Part.bus _ (fun _ _ => by simp) _ _
@[simp] theorem Part.countOutOfReach_mem (p : Part) (l : List Slot) : (p.countOutOfReach l).mem = p.mem := by
  unfold Part.countOutOfReach; exact foldl_keeps Part.mem _ (fun _ _ => by simp) _ _
@[simp] theorem Part.countOutOfReach_settings (p : Part) (l : List Slot) : (p.countOutOfReach l).settings = p.settings := by
  unfold Part.countOutOfReach; exact foldl_keeps Part.settings _ (fun _ _ => by simp) _ _
@[simp] theorem Part.countOutOfReach_roster (p : Part) (l : List Slot) : (p.countOutOfReach l).roster = p.roster := by
  unfold Part.countOutOfReach; exact foldl_keeps Part.roster _ (fun _ _ => by simp) _ _
@[simp] theorem Part.countOutOfReach_units (p : Part) (l : List Slot) : (p.countOutOfReach l).units = p.units := by
  unfold Part.countOutOfReach; exact foldl_keeps Part.units _ (fun _ _ => by simp) _ _
@[simp] theorem Part.countOutOfReach_scan (p : Part) (l : List Slot) : (p.countOutOfReach l).scan = p.scan := by
  unfold Part.countOutOfReach; exact foldl_keeps Part.scan _ (fun _ _ => by simp) _ _
@[simp] theorem Part.countOutOfReach_notify (p : Part) (l : List Slot) : (p.countOutOfReach l).notify = p.notify := by
  unfold Part.countOutOfReach; exact foldl_keeps Part.notify _ (fun _ _ => by simp) _ _
@[simp] theorem Part.countOutOfReach_check (p : Part) (l : List Slot) : (p.countOutOfReach l).check = p.check := by
  unfold Part.countOutOfReach; exact foldl_keeps Part.check _ (fun _ _ => by simp) _ _

@[simp] theorem Part.judgeVolunteer_pins (p : Part) (v : VolunteerIx) : (p.judgeVolunteer v).pins = p.pins := by
  simp only [Part.judgeVolunteer]; repeat' split
  all_goals simp
@[simp] theorem Part.judgeVolunteer_bus (p : Part) (v : VolunteerIx) : (p.judgeVolunteer v).bus = p.bus := by
  simp only [Part.judgeVolunteer]; repeat' split
  all_goals simp
@[simp] theorem Part.judgeVolunteer_mem (p : Part) (v : VolunteerIx) : (p.judgeVolunteer v).mem = p.mem := by
  simp only [Part.judgeVolunteer]; repeat' split
  all_goals simp
@[simp] theorem Part.judgeVolunteer_settings (p : Part) (v : VolunteerIx) : (p.judgeVolunteer v).settings = p.settings := by
  simp only [Part.judgeVolunteer]; repeat' split
  all_goals simp
@[simp] theorem Part.judgeVolunteer_roster (p : Part) (v : VolunteerIx) : (p.judgeVolunteer v).roster = p.roster := by
  simp only [Part.judgeVolunteer]; repeat' split
  all_goals simp
@[simp] theorem Part.judgeVolunteer_notify (p : Part) (v : VolunteerIx) : (p.judgeVolunteer v).notify = p.notify := by
  simp only [Part.judgeVolunteer]; repeat' split
  all_goals simp
@[simp] theorem Part.judgeVolunteer_check (p : Part) (v : VolunteerIx) : (p.judgeVolunteer v).check = p.check := by
  simp only [Part.judgeVolunteer]; repeat' split
  all_goals simp

@[simp] theorem Part.clearUnreachable_pins (p : Part) : (p.clearUnreachable).pins = p.pins := by
  simp [Part.clearUnreachable]
@[simp] theorem Part.clearUnreachable_bus (p : Part) : (p.clearUnreachable).bus = p.bus := by
  simp [Part.clearUnreachable]
@[simp] theorem Part.clearUnreachable_mem (p : Part) : (p.clearUnreachable).mem = p.mem := by
  simp [Part.clearUnreachable]
@[simp] theorem Part.clearUnreachable_settings (p : Part) : (p.clearUnreachable).settings = p.settings := by
  simp [Part.clearUnreachable]
@[simp] theorem Part.clearUnreachable_roster (p : Part) : (p.clearUnreachable).roster = p.roster := by
  simp [Part.clearUnreachable]
@[simp] theorem Part.clearUnreachable_units (p : Part) : (p.clearUnreachable).units = p.units := by
  simp [Part.clearUnreachable]
@[simp] theorem Part.clearUnreachable_scan (p : Part) : (p.clearUnreachable).scan = p.scan := by
  simp [Part.clearUnreachable]
@[simp] theorem Part.clearUnreachable_notify (p : Part) : (p.clearUnreachable).notify = p.notify := by
  simp [Part.clearUnreachable]
@[simp] theorem Part.clearUnreachable_check (p : Part) : (p.clearUnreachable).check = p.check := by
  simp [Part.clearUnreachable]

@[simp] theorem Part.round_pins (p : Part) : (p.round).pins = p.pins := by
  unfold Part.round; rw [foldl_keeps Part.pins _ (fun _ _ => by simp)]; simp
@[simp] theorem Part.round_bus (p : Part) : (p.round).bus = p.bus := by
  unfold Part.round; rw [foldl_keeps Part.bus _ (fun _ _ => by simp)]; simp
@[simp] theorem Part.round_mem (p : Part) : (p.round).mem = p.mem := by
  unfold Part.round; rw [foldl_keeps Part.mem _ (fun _ _ => by simp)]; simp
@[simp] theorem Part.round_settings (p : Part) : (p.round).settings = p.settings := by
  unfold Part.round; rw [foldl_keeps Part.settings _ (fun _ _ => by simp)]; simp
@[simp] theorem Part.round_roster (p : Part) : (p.round).roster = p.roster := by
  unfold Part.round; rw [foldl_keeps Part.roster _ (fun _ _ => by simp)]; simp
@[simp] theorem Part.round_notify (p : Part) : (p.round).notify = p.notify := by
  unfold Part.round; rw [foldl_keeps Part.notify _ (fun _ _ => by simp)]; simp
@[simp] theorem Part.round_check (p : Part) : (p.round).check = p.check := by
  unfold Part.round; rw [foldl_keeps Part.check _ (fun _ _ => by simp)]; simp

@[simp] theorem Part.roundIf_pins (p : Part) (b : Bool) : (p.roundIf b).pins = p.pins := by
  simp only [Part.roundIf]; repeat' split
  all_goals simp
@[simp] theorem Part.roundIf_bus (p : Part) (b : Bool) : (p.roundIf b).bus = p.bus := by
  simp only [Part.roundIf]; repeat' split
  all_goals simp
@[simp] theorem Part.roundIf_mem (p : Part) (b : Bool) : (p.roundIf b).mem = p.mem := by
  simp only [Part.roundIf]; repeat' split
  all_goals simp
@[simp] theorem Part.roundIf_settings (p : Part) (b : Bool) : (p.roundIf b).settings = p.settings := by
  simp only [Part.roundIf]; repeat' split
  all_goals simp
@[simp] theorem Part.roundIf_roster (p : Part) (b : Bool) : (p.roundIf b).roster = p.roster := by
  simp only [Part.roundIf]; repeat' split
  all_goals simp
@[simp] theorem Part.roundIf_notify (p : Part) (b : Bool) : (p.roundIf b).notify = p.notify := by
  simp only [Part.roundIf]; repeat' split
  all_goals simp
@[simp] theorem Part.roundIf_check (p : Part) (b : Bool) : (p.roundIf b).check = p.check := by
  simp only [Part.roundIf]; repeat' split
  all_goals simp

@[simp] theorem Part.setFree_pins (p : Part) (v : VolunteerIx) : (p.setFree v).pins = p.pins := by
  simp [Part.setFree]
@[simp] theorem Part.setFree_bus (p : Part) (v : VolunteerIx) : (p.setFree v).bus = p.bus := by
  simp [Part.setFree]
@[simp] theorem Part.setFree_mem (p : Part) (v : VolunteerIx) : (p.setFree v).mem = p.mem := by
  simp [Part.setFree]
@[simp] theorem Part.setFree_settings (p : Part) (v : VolunteerIx) : (p.setFree v).settings = p.settings := by
  simp [Part.setFree]
@[simp] theorem Part.setFree_roster (p : Part) (v : VolunteerIx) : (p.setFree v).roster = p.roster := by
  simp [Part.setFree]
@[simp] theorem Part.setFree_units (p : Part) (v : VolunteerIx) : (p.setFree v).units = p.units := by
  simp [Part.setFree]
@[simp] theorem Part.setFree_scan (p : Part) (v : VolunteerIx) : (p.setFree v).scan = p.scan := by
  simp [Part.setFree]
@[simp] theorem Part.setFree_notify (p : Part) (v : VolunteerIx) : (p.setFree v).notify = p.notify := by
  simp [Part.setFree]
@[simp] theorem Part.setFree_check (p : Part) (v : VolunteerIx) : (p.setFree v).check = p.check := by
  simp [Part.setFree]

@[simp] theorem Part.addDeclined_pins (p : Part) (v : VolunteerIx) (s : Slot) : (p.addDeclined v s).pins = p.pins := by
  simp [Part.addDeclined]
@[simp] theorem Part.addDeclined_bus (p : Part) (v : VolunteerIx) (s : Slot) : (p.addDeclined v s).bus = p.bus := by
  simp [Part.addDeclined]
@[simp] theorem Part.addDeclined_mem (p : Part) (v : VolunteerIx) (s : Slot) : (p.addDeclined v s).mem = p.mem := by
  simp [Part.addDeclined]
@[simp] theorem Part.addDeclined_settings (p : Part) (v : VolunteerIx) (s : Slot) : (p.addDeclined v s).settings = p.settings := by
  simp [Part.addDeclined]
@[simp] theorem Part.addDeclined_roster (p : Part) (v : VolunteerIx) (s : Slot) : (p.addDeclined v s).roster = p.roster := by
  simp [Part.addDeclined]
@[simp] theorem Part.addDeclined_units (p : Part) (v : VolunteerIx) (s : Slot) : (p.addDeclined v s).units = p.units := by
  simp [Part.addDeclined]
@[simp] theorem Part.addDeclined_scan (p : Part) (v : VolunteerIx) (s : Slot) : (p.addDeclined v s).scan = p.scan := by
  simp [Part.addDeclined]
@[simp] theorem Part.addDeclined_notify (p : Part) (v : VolunteerIx) (s : Slot) : (p.addDeclined v s).notify = p.notify := by
  simp [Part.addDeclined]
@[simp] theorem Part.addDeclined_check (p : Part) (v : VolunteerIx) (s : Slot) : (p.addDeclined v s).check = p.check := by
  simp [Part.addDeclined]

@[simp] theorem Part.standDownFree_pins (p : Part) (v : VolunteerIx) : (p.standDownFree v).pins = p.pins := by
  simp [Part.standDownFree]
@[simp] theorem Part.standDownFree_bus (p : Part) (v : VolunteerIx) : (p.standDownFree v).bus = p.bus := by
  simp [Part.standDownFree]
@[simp] theorem Part.standDownFree_mem (p : Part) (v : VolunteerIx) : (p.standDownFree v).mem = p.mem := by
  simp [Part.standDownFree]
@[simp] theorem Part.standDownFree_settings (p : Part) (v : VolunteerIx) : (p.standDownFree v).settings = p.settings := by
  simp [Part.standDownFree]
@[simp] theorem Part.standDownFree_roster (p : Part) (v : VolunteerIx) : (p.standDownFree v).roster = p.roster := by
  simp [Part.standDownFree]
@[simp] theorem Part.standDownFree_notify (p : Part) (v : VolunteerIx) : (p.standDownFree v).notify = p.notify := by
  simp [Part.standDownFree]
@[simp] theorem Part.standDownFree_check (p : Part) (v : VolunteerIx) : (p.standDownFree v).check = p.check := by
  simp [Part.standDownFree]

@[simp] theorem Part.trim_pins (p : Part) (s : Slot) : (p.trim s).pins = p.pins := by
  simp only [Part.trim, Part.actOnPendings_pins]; exact foldl_keeps Part.pins _ (fun _ _ => by simp) _ _
@[simp] theorem Part.trim_bus (p : Part) (s : Slot) : (p.trim s).bus = p.bus := by
  simp only [Part.trim, Part.actOnPendings_bus]; exact foldl_keeps Part.bus _ (fun _ _ => by simp) _ _
@[simp] theorem Part.trim_mem (p : Part) (s : Slot) : (p.trim s).mem = p.mem := by
  simp only [Part.trim, Part.actOnPendings_mem]; exact foldl_keeps Part.mem _ (fun _ _ => by simp) _ _
@[simp] theorem Part.trim_settings (p : Part) (s : Slot) : (p.trim s).settings = p.settings := by
  simp only [Part.trim, Part.actOnPendings_settings]; exact foldl_keeps Part.settings _ (fun _ _ => by simp) _ _
@[simp] theorem Part.trim_check (p : Part) (s : Slot) : (p.trim s).check = p.check := by
  simp only [Part.trim, Part.actOnPendings_check]; exact foldl_keeps Part.check _ (fun _ _ => by simp) _ _

@[simp] theorem Part.judgeComplete_pins (p : Part) (s : Slot) : (p.judgeComplete s).pins = p.pins := by
  simp only [Part.judgeComplete]; repeat' split
  all_goals simp
@[simp] theorem Part.judgeComplete_bus (p : Part) (s : Slot) : (p.judgeComplete s).bus = p.bus := by
  simp only [Part.judgeComplete]; repeat' split
  all_goals simp
@[simp] theorem Part.judgeComplete_mem (p : Part) (s : Slot) : (p.judgeComplete s).mem = p.mem := by
  simp only [Part.judgeComplete]; repeat' split
  all_goals simp
@[simp] theorem Part.judgeComplete_settings (p : Part) (s : Slot) : (p.judgeComplete s).settings = p.settings := by
  simp only [Part.judgeComplete]; repeat' split
  all_goals simp
@[simp] theorem Part.judgeComplete_roster (p : Part) (s : Slot) : (p.judgeComplete s).roster = p.roster := by
  simp only [Part.judgeComplete]; repeat' split
  all_goals simp
@[simp] theorem Part.judgeComplete_units (p : Part) (s : Slot) : (p.judgeComplete s).units = p.units := by
  simp only [Part.judgeComplete]; repeat' split
  all_goals simp
@[simp] theorem Part.judgeComplete_scan (p : Part) (s : Slot) : (p.judgeComplete s).scan = p.scan := by
  simp only [Part.judgeComplete]; repeat' split
  all_goals simp
@[simp] theorem Part.judgeComplete_check (p : Part) (s : Slot) : (p.judgeComplete s).check = p.check := by
  simp only [Part.judgeComplete]; repeat' split
  all_goals simp

@[simp] theorem Part.judgeReturn_pins (p : Part) (s : Slot) : (p.judgeReturn s).pins = p.pins := by
  simp only [Part.judgeReturn]; repeat' split
  all_goals simp
@[simp] theorem Part.judgeReturn_bus (p : Part) (s : Slot) : (p.judgeReturn s).bus = p.bus := by
  simp only [Part.judgeReturn]; repeat' split
  all_goals simp
@[simp] theorem Part.judgeReturn_mem (p : Part) (s : Slot) : (p.judgeReturn s).mem = p.mem := by
  simp only [Part.judgeReturn]; repeat' split
  all_goals simp
@[simp] theorem Part.judgeReturn_settings (p : Part) (s : Slot) : (p.judgeReturn s).settings = p.settings := by
  simp only [Part.judgeReturn]; repeat' split
  all_goals simp
@[simp] theorem Part.judgeReturn_roster (p : Part) (s : Slot) : (p.judgeReturn s).roster = p.roster := by
  simp only [Part.judgeReturn]; repeat' split
  all_goals simp
@[simp] theorem Part.judgeReturn_units (p : Part) (s : Slot) : (p.judgeReturn s).units = p.units := by
  simp only [Part.judgeReturn]; repeat' split
  all_goals simp
@[simp] theorem Part.judgeReturn_scan (p : Part) (s : Slot) : (p.judgeReturn s).scan = p.scan := by
  simp only [Part.judgeReturn]; repeat' split
  all_goals simp
@[simp] theorem Part.judgeReturn_check (p : Part) (s : Slot) : (p.judgeReturn s).check = p.check := by
  simp only [Part.judgeReturn]; repeat' split
  all_goals simp

@[simp] theorem Part.removeAttendee_pins (p : Part) (v : VolunteerIx) (s : Slot) : (p.removeAttendee v s).pins = p.pins := by
  simp [Part.removeAttendee]
@[simp] theorem Part.removeAttendee_bus (p : Part) (v : VolunteerIx) (s : Slot) : (p.removeAttendee v s).bus = p.bus := by
  simp [Part.removeAttendee]
@[simp] theorem Part.removeAttendee_mem (p : Part) (v : VolunteerIx) (s : Slot) : (p.removeAttendee v s).mem = p.mem := by
  simp [Part.removeAttendee]
@[simp] theorem Part.removeAttendee_settings (p : Part) (v : VolunteerIx) (s : Slot) : (p.removeAttendee v s).settings = p.settings := by
  simp [Part.removeAttendee]
@[simp] theorem Part.removeAttendee_roster (p : Part) (v : VolunteerIx) (s : Slot) : (p.removeAttendee v s).roster = p.roster := by
  simp [Part.removeAttendee]
@[simp] theorem Part.removeAttendee_units (p : Part) (v : VolunteerIx) (s : Slot) : (p.removeAttendee v s).units = p.units := by
  simp [Part.removeAttendee]
@[simp] theorem Part.removeAttendee_scan (p : Part) (v : VolunteerIx) (s : Slot) : (p.removeAttendee v s).scan = p.scan := by
  simp [Part.removeAttendee]
@[simp] theorem Part.removeAttendee_check (p : Part) (v : VolunteerIx) (s : Slot) : (p.removeAttendee v s).check = p.check := by
  simp [Part.removeAttendee]

@[simp] theorem Part.admitted_pins (p : Part) (v : VolunteerIx) (s : Slot) (a : Assignment) (e : Nat) : (p.admitted v s a e).pins = p.pins := by
  simp only [Part.admitted]; repeat' split
  all_goals simp
@[simp] theorem Part.admitted_bus (p : Part) (v : VolunteerIx) (s : Slot) (a : Assignment) (e : Nat) : (p.admitted v s a e).bus = p.bus := by
  simp only [Part.admitted]; repeat' split
  all_goals simp
@[simp] theorem Part.admitted_mem (p : Part) (v : VolunteerIx) (s : Slot) (a : Assignment) (e : Nat) : (p.admitted v s a e).mem = p.mem := by
  simp only [Part.admitted]; repeat' split
  all_goals simp
@[simp] theorem Part.admitted_settings (p : Part) (v : VolunteerIx) (s : Slot) (a : Assignment) (e : Nat) : (p.admitted v s a e).settings = p.settings := by
  simp only [Part.admitted]; repeat' split
  all_goals simp
@[simp] theorem Part.admitted_roster (p : Part) (v : VolunteerIx) (s : Slot) (a : Assignment) (e : Nat) : (p.admitted v s a e).roster = p.roster := by
  simp only [Part.admitted]; repeat' split
  all_goals simp
@[simp] theorem Part.admitted_units (p : Part) (v : VolunteerIx) (s : Slot) (a : Assignment) (e : Nat) : (p.admitted v s a e).units = p.units := by
  simp only [Part.admitted]; repeat' split
  all_goals simp
@[simp] theorem Part.admitted_scan (p : Part) (v : VolunteerIx) (s : Slot) (a : Assignment) (e : Nat) : (p.admitted v s a e).scan = p.scan := by
  simp only [Part.admitted]; repeat' split
  all_goals simp
@[simp] theorem Part.admitted_check (p : Part) (v : VolunteerIx) (s : Slot) (a : Assignment) (e : Nat) : (p.admitted v s a e).check = p.check := by
  simp only [Part.admitted]; repeat' split
  all_goals simp

@[simp] theorem Part.admit_pins (p : Part) (v : VolunteerIx) (s : Slot) (a : Assignment) (e : Nat) : (p.enlist v s a e).pins = p.pins := by
  simp only [Part.enlist]; repeat' split
  all_goals simp
@[simp] theorem Part.admit_bus (p : Part) (v : VolunteerIx) (s : Slot) (a : Assignment) (e : Nat) : (p.enlist v s a e).bus = p.bus := by
  simp only [Part.enlist]; repeat' split
  all_goals simp
@[simp] theorem Part.admit_mem (p : Part) (v : VolunteerIx) (s : Slot) (a : Assignment) (e : Nat) : (p.enlist v s a e).mem = p.mem := by
  simp only [Part.enlist]; repeat' split
  all_goals simp
@[simp] theorem Part.admit_settings (p : Part) (v : VolunteerIx) (s : Slot) (a : Assignment) (e : Nat) : (p.enlist v s a e).settings = p.settings := by
  simp only [Part.enlist]; repeat' split
  all_goals simp
@[simp] theorem Part.admit_check (p : Part) (v : VolunteerIx) (s : Slot) (a : Assignment) (e : Nat) : (p.enlist v s a e).check = p.check := by
  simp only [Part.enlist]; repeat' split
  all_goals simp

@[simp] theorem Part.turnBack_pins (p : Part) (v : VolunteerIx) (s : Slot) : (p.turnBack v s).pins = p.pins := by
  simp only [Part.turnBack]; repeat' split
  all_goals simp
@[simp] theorem Part.turnBack_bus (p : Part) (v : VolunteerIx) (s : Slot) : (p.turnBack v s).bus = p.bus := by
  simp only [Part.turnBack]; repeat' split
  all_goals simp
@[simp] theorem Part.turnBack_mem (p : Part) (v : VolunteerIx) (s : Slot) : (p.turnBack v s).mem = p.mem := by
  simp only [Part.turnBack]; repeat' split
  all_goals simp
@[simp] theorem Part.turnBack_settings (p : Part) (v : VolunteerIx) (s : Slot) : (p.turnBack v s).settings = p.settings := by
  simp only [Part.turnBack]; repeat' split
  all_goals simp
@[simp] theorem Part.turnBack_check (p : Part) (v : VolunteerIx) (s : Slot) : (p.turnBack v s).check = p.check := by
  simp only [Part.turnBack]; repeat' split
  all_goals simp

@[simp] theorem Part.alertAgain_pins (p : Part) (v : VolunteerIx) (s : Slot) : (p.alertAgain v s).pins = p.pins := by
  simp [Part.alertAgain]
@[simp] theorem Part.alertAgain_bus (p : Part) (v : VolunteerIx) (s : Slot) : (p.alertAgain v s).bus = p.bus := by
  simp [Part.alertAgain]
@[simp] theorem Part.alertAgain_mem (p : Part) (v : VolunteerIx) (s : Slot) : (p.alertAgain v s).mem = p.mem := by
  simp [Part.alertAgain]
@[simp] theorem Part.alertAgain_settings (p : Part) (v : VolunteerIx) (s : Slot) : (p.alertAgain v s).settings = p.settings := by
  simp [Part.alertAgain]
@[simp] theorem Part.alertAgain_roster (p : Part) (v : VolunteerIx) (s : Slot) : (p.alertAgain v s).roster = p.roster := by
  simp [Part.alertAgain]
@[simp] theorem Part.alertAgain_engine (p : Part) (v : VolunteerIx) (s : Slot) : (p.alertAgain v s).engine = p.engine := by
  simp [Part.alertAgain]
@[simp] theorem Part.alertAgain_notify (p : Part) (v : VolunteerIx) (s : Slot) : (p.alertAgain v s).notify = p.notify := by
  simp [Part.alertAgain]
@[simp] theorem Part.alertAgain_check (p : Part) (v : VolunteerIx) (s : Slot) : (p.alertAgain v s).check = p.check := by
  simp [Part.alertAgain]

@[simp] theorem Part.attendAdmit_pins (p : Part) (v : VolunteerIx) (s : Slot) (e : Nat) : (p.attendAdmit v s e).pins = p.pins := by
  simp only [Part.attendAdmit]; repeat' split
  all_goals simp
@[simp] theorem Part.attendAdmit_bus (p : Part) (v : VolunteerIx) (s : Slot) (e : Nat) : (p.attendAdmit v s e).bus = p.bus := by
  simp only [Part.attendAdmit]; repeat' split
  all_goals simp
@[simp] theorem Part.attendAdmit_mem (p : Part) (v : VolunteerIx) (s : Slot) (e : Nat) : (p.attendAdmit v s e).mem = p.mem := by
  simp only [Part.attendAdmit]; repeat' split
  all_goals simp
@[simp] theorem Part.attendAdmit_settings (p : Part) (v : VolunteerIx) (s : Slot) (e : Nat) : (p.attendAdmit v s e).settings = p.settings := by
  simp only [Part.attendAdmit]; repeat' split
  all_goals simp
@[simp] theorem Part.attendAdmit_check (p : Part) (v : VolunteerIx) (s : Slot) (e : Nat) : (p.attendAdmit v s e).check = p.check := by
  simp only [Part.attendAdmit]; repeat' split
  all_goals simp

@[simp] theorem Part.takeAttend_pins (p : Part) (v : VolunteerIx) (e : Nat) (s : Slot) (g : BitVec 4) : (p.takeAttend v e s g).pins = p.pins := by
  simp only [Part.takeAttend]; repeat' split
  all_goals simp
@[simp] theorem Part.takeAttend_bus (p : Part) (v : VolunteerIx) (e : Nat) (s : Slot) (g : BitVec 4) : (p.takeAttend v e s g).bus = p.bus := by
  simp only [Part.takeAttend]; repeat' split
  all_goals simp
@[simp] theorem Part.takeAttend_mem (p : Part) (v : VolunteerIx) (e : Nat) (s : Slot) (g : BitVec 4) : (p.takeAttend v e s g).mem = p.mem := by
  simp only [Part.takeAttend]; repeat' split
  all_goals simp
@[simp] theorem Part.takeAttend_settings (p : Part) (v : VolunteerIx) (e : Nat) (s : Slot) (g : BitVec 4) : (p.takeAttend v e s g).settings = p.settings := by
  simp only [Part.takeAttend]; repeat' split
  all_goals simp
@[simp] theorem Part.takeAttend_check (p : Part) (v : VolunteerIx) (e : Nat) (s : Slot) (g : BitVec 4) : (p.takeAttend v e s g).check = p.check := by
  simp only [Part.takeAttend]; repeat' split
  all_goals simp

@[simp] theorem Part.declineOffer_pins (p : Part) (v : VolunteerIx) (s : Slot) : (p.declineOffer v s).pins = p.pins := by
  simp [Part.declineOffer]
@[simp] theorem Part.declineOffer_bus (p : Part) (v : VolunteerIx) (s : Slot) : (p.declineOffer v s).bus = p.bus := by
  simp [Part.declineOffer]
@[simp] theorem Part.declineOffer_mem (p : Part) (v : VolunteerIx) (s : Slot) : (p.declineOffer v s).mem = p.mem := by
  simp [Part.declineOffer]
@[simp] theorem Part.declineOffer_settings (p : Part) (v : VolunteerIx) (s : Slot) : (p.declineOffer v s).settings = p.settings := by
  simp [Part.declineOffer]
@[simp] theorem Part.declineOffer_check (p : Part) (v : VolunteerIx) (s : Slot) : (p.declineOffer v s).check = p.check := by
  simp [Part.declineOffer]

@[simp] theorem Part.declineAttendance_pins (p : Part) (v : VolunteerIx) (s : Slot) : (p.declineAttendance v s).pins = p.pins := by
  simp [Part.declineAttendance]
@[simp] theorem Part.declineAttendance_bus (p : Part) (v : VolunteerIx) (s : Slot) : (p.declineAttendance v s).bus = p.bus := by
  simp [Part.declineAttendance]
@[simp] theorem Part.declineAttendance_mem (p : Part) (v : VolunteerIx) (s : Slot) : (p.declineAttendance v s).mem = p.mem := by
  simp [Part.declineAttendance]
@[simp] theorem Part.declineAttendance_settings (p : Part) (v : VolunteerIx) (s : Slot) : (p.declineAttendance v s).settings = p.settings := by
  simp [Part.declineAttendance]
@[simp] theorem Part.declineAttendance_check (p : Part) (v : VolunteerIx) (s : Slot) : (p.declineAttendance v s).check = p.check := by
  simp [Part.declineAttendance]

@[simp] theorem Part.takeDecline_pins (p : Part) (v : VolunteerIx) (s : Slot) (g : BitVec 4) : (p.takeDecline v s g).pins = p.pins := by
  simp only [Part.takeDecline]; repeat' split
  all_goals simp
@[simp] theorem Part.takeDecline_bus (p : Part) (v : VolunteerIx) (s : Slot) (g : BitVec 4) : (p.takeDecline v s g).bus = p.bus := by
  simp only [Part.takeDecline]; repeat' split
  all_goals simp
@[simp] theorem Part.takeDecline_mem (p : Part) (v : VolunteerIx) (s : Slot) (g : BitVec 4) : (p.takeDecline v s g).mem = p.mem := by
  simp only [Part.takeDecline]; repeat' split
  all_goals simp
@[simp] theorem Part.takeDecline_settings (p : Part) (v : VolunteerIx) (s : Slot) (g : BitVec 4) : (p.takeDecline v s g).settings = p.settings := by
  simp only [Part.takeDecline]; repeat' split
  all_goals simp
@[simp] theorem Part.takeDecline_check (p : Part) (v : VolunteerIx) (s : Slot) (g : BitVec 4) : (p.takeDecline v s g).check = p.check := by
  simp only [Part.takeDecline]; repeat' split
  all_goals simp

@[simp] theorem Part.setHome_pins (p : Part) (v : VolunteerIx) (b : Bool) : (p.setHome v b).pins = p.pins := by
  simp [Part.setHome]
@[simp] theorem Part.setHome_bus (p : Part) (v : VolunteerIx) (b : Bool) : (p.setHome v b).bus = p.bus := by
  simp [Part.setHome]
@[simp] theorem Part.setHome_mem (p : Part) (v : VolunteerIx) (b : Bool) : (p.setHome v b).mem = p.mem := by
  simp [Part.setHome]
@[simp] theorem Part.setHome_settings (p : Part) (v : VolunteerIx) (b : Bool) : (p.setHome v b).settings = p.settings := by
  simp [Part.setHome]
@[simp] theorem Part.setHome_units (p : Part) (v : VolunteerIx) (b : Bool) : (p.setHome v b).units = p.units := by
  simp [Part.setHome]
@[simp] theorem Part.setHome_scan (p : Part) (v : VolunteerIx) (b : Bool) : (p.setHome v b).scan = p.scan := by
  simp [Part.setHome]
@[simp] theorem Part.setHome_engine (p : Part) (v : VolunteerIx) (b : Bool) : (p.setHome v b).engine = p.engine := by
  simp [Part.setHome]
@[simp] theorem Part.setHome_notify (p : Part) (v : VolunteerIx) (b : Bool) : (p.setHome v b).notify = p.notify := by
  simp [Part.setHome]
@[simp] theorem Part.setHome_check (p : Part) (v : VolunteerIx) (b : Bool) : (p.setHome v b).check = p.check := by
  simp [Part.setHome]

@[simp] theorem Part.takeAvailOff_pins (p : Part) (v : VolunteerIx) : (p.takeAvailOff v).pins = p.pins := by
  simp only [Part.takeAvailOff]; repeat' split
  all_goals simp
@[simp] theorem Part.takeAvailOff_bus (p : Part) (v : VolunteerIx) : (p.takeAvailOff v).bus = p.bus := by
  simp only [Part.takeAvailOff]; repeat' split
  all_goals simp
@[simp] theorem Part.takeAvailOff_mem (p : Part) (v : VolunteerIx) : (p.takeAvailOff v).mem = p.mem := by
  simp only [Part.takeAvailOff]; repeat' split
  all_goals simp
@[simp] theorem Part.takeAvailOff_settings (p : Part) (v : VolunteerIx) : (p.takeAvailOff v).settings = p.settings := by
  simp only [Part.takeAvailOff]; repeat' split
  all_goals simp
@[simp] theorem Part.takeAvailOff_check (p : Part) (v : VolunteerIx) : (p.takeAvailOff v).check = p.check := by
  simp only [Part.takeAvailOff]; repeat' split
  all_goals simp

@[simp] theorem Part.takeAvailOn_pins (p : Part) (v : VolunteerIx) : (p.takeAvailOn v).pins = p.pins := by
  simp [Part.takeAvailOn]
@[simp] theorem Part.takeAvailOn_bus (p : Part) (v : VolunteerIx) : (p.takeAvailOn v).bus = p.bus := by
  simp [Part.takeAvailOn]
@[simp] theorem Part.takeAvailOn_mem (p : Part) (v : VolunteerIx) : (p.takeAvailOn v).mem = p.mem := by
  simp [Part.takeAvailOn]
@[simp] theorem Part.takeAvailOn_settings (p : Part) (v : VolunteerIx) : (p.takeAvailOn v).settings = p.settings := by
  simp [Part.takeAvailOn]
@[simp] theorem Part.takeAvailOn_check (p : Part) (v : VolunteerIx) : (p.takeAvailOn v).check = p.check := by
  simp [Part.takeAvailOn]

@[simp] theorem Part.takeEvent_pins (p : Part) (v : VolunteerIx) (e : SeatEvent) : (p.takeEvent v e).pins = p.pins := by
  cases e <;> simp [Part.takeEvent]
@[simp] theorem Part.takeEvent_bus (p : Part) (v : VolunteerIx) (e : SeatEvent) : (p.takeEvent v e).bus = p.bus := by
  cases e <;> simp [Part.takeEvent]
@[simp] theorem Part.takeEvent_mem (p : Part) (v : VolunteerIx) (e : SeatEvent) : (p.takeEvent v e).mem = p.mem := by
  cases e <;> simp [Part.takeEvent]
@[simp] theorem Part.takeEvent_settings (p : Part) (v : VolunteerIx) (e : SeatEvent) : (p.takeEvent v e).settings = p.settings := by
  cases e <;> simp [Part.takeEvent]
@[simp] theorem Part.takeEvent_check (p : Part) (v : VolunteerIx) (e : SeatEvent) : (p.takeEvent v e).check = p.check := by
  cases e <;> simp [Part.takeEvent]

@[simp] theorem Part.judgeEvent_pins (p : Part) (u : UnitIx) (s : Seat) (w : Word) : (p.judgeEvent u s w).pins = p.pins := by
  simp only [Part.judgeEvent]; repeat' split
  all_goals simp
@[simp] theorem Part.judgeEvent_bus (p : Part) (u : UnitIx) (s : Seat) (w : Word) : (p.judgeEvent u s w).bus = p.bus := by
  simp only [Part.judgeEvent]; repeat' split
  all_goals simp
@[simp] theorem Part.judgeEvent_mem (p : Part) (u : UnitIx) (s : Seat) (w : Word) : (p.judgeEvent u s w).mem = p.mem := by
  simp only [Part.judgeEvent]; repeat' split
  all_goals simp
@[simp] theorem Part.judgeEvent_settings (p : Part) (u : UnitIx) (s : Seat) (w : Word) : (p.judgeEvent u s w).settings = p.settings := by
  simp only [Part.judgeEvent]; repeat' split
  all_goals simp
@[simp] theorem Part.judgeEvent_check (p : Part) (u : UnitIx) (s : Seat) (w : Word) : (p.judgeEvent u s w).check = p.check := by
  simp only [Part.judgeEvent]; repeat' split
  all_goals simp

@[simp] theorem Part.expireStage_pins (p : Part) (s : Slot) : (p.expireStage s).pins = p.pins := by
  simp only [Part.expireStage]; repeat' split
  all_goals simp
@[simp] theorem Part.expireStage_bus (p : Part) (s : Slot) : (p.expireStage s).bus = p.bus := by
  simp only [Part.expireStage]; repeat' split
  all_goals simp
@[simp] theorem Part.expireStage_mem (p : Part) (s : Slot) : (p.expireStage s).mem = p.mem := by
  simp only [Part.expireStage]; repeat' split
  all_goals simp
@[simp] theorem Part.expireStage_settings (p : Part) (s : Slot) : (p.expireStage s).settings = p.settings := by
  simp only [Part.expireStage]; repeat' split
  all_goals simp
@[simp] theorem Part.expireStage_roster (p : Part) (s : Slot) : (p.expireStage s).roster = p.roster := by
  simp only [Part.expireStage]; repeat' split
  all_goals simp
@[simp] theorem Part.expireStage_check (p : Part) (s : Slot) : (p.expireStage s).check = p.check := by
  simp only [Part.expireStage]; repeat' split
  all_goals simp

@[simp] theorem Part.unitDisabled_pins (p : Part) (u : UnitIx) : (p.unitDisabled u).pins = p.pins := by
  simp only [Part.unitDisabled, Part.roundIf_pins, Part.actOnPendings_pins]; exact foldl_keeps Part.pins _ (fun _ _ => by simp) _ _
@[simp] theorem Part.unitDisabled_bus (p : Part) (u : UnitIx) : (p.unitDisabled u).bus = p.bus := by
  simp only [Part.unitDisabled, Part.roundIf_bus, Part.actOnPendings_bus]; exact foldl_keeps Part.bus _ (fun _ _ => by simp) _ _
@[simp] theorem Part.unitDisabled_mem (p : Part) (u : UnitIx) : (p.unitDisabled u).mem = p.mem := by
  simp only [Part.unitDisabled, Part.roundIf_mem, Part.actOnPendings_mem]; exact foldl_keeps Part.mem _ (fun _ _ => by simp) _ _
@[simp] theorem Part.unitDisabled_settings (p : Part) (u : UnitIx) : (p.unitDisabled u).settings = p.settings := by
  simp only [Part.unitDisabled, Part.roundIf_settings, Part.actOnPendings_settings]; exact foldl_keeps Part.settings _ (fun _ _ => by simp) _ _
@[simp] theorem Part.unitDisabled_check (p : Part) (u : UnitIx) : (p.unitDisabled u).check = p.check := by
  simp only [Part.unitDisabled, Part.roundIf_check, Part.actOnPendings_check]; exact foldl_keeps Part.check _ (fun _ _ => by simp) _ _

@[simp] theorem Part.takeEnable_pins (p : Part) (u : UnitIx) : (p.takeEnable u).pins = p.pins := by
  simp only [Part.takeEnable]; repeat' split
  all_goals simp
@[simp] theorem Part.takeEnable_bus (p : Part) (u : UnitIx) : (p.takeEnable u).bus = p.bus := by
  simp only [Part.takeEnable]; repeat' split
  all_goals simp
@[simp] theorem Part.takeEnable_mem (p : Part) (u : UnitIx) : (p.takeEnable u).mem = p.mem := by
  simp only [Part.takeEnable]; repeat' split
  all_goals simp
@[simp] theorem Part.takeEnable_settings (p : Part) (u : UnitIx) : (p.takeEnable u).settings = p.settings := by
  simp only [Part.takeEnable]; repeat' split
  all_goals simp
@[simp] theorem Part.takeEnable_check (p : Part) (u : UnitIx) : (p.takeEnable u).check = p.check := by
  simp only [Part.takeEnable]; repeat' split
  all_goals simp

@[simp] theorem Part.takeEnables_pins (p : Part) : (p.takeEnables).pins = p.pins := by
  unfold Part.takeEnables; exact foldl_keeps Part.pins _ (fun _ _ => by simp) _ _
@[simp] theorem Part.takeEnables_bus (p : Part) : (p.takeEnables).bus = p.bus := by
  unfold Part.takeEnables; exact foldl_keeps Part.bus _ (fun _ _ => by simp) _ _
@[simp] theorem Part.takeEnables_mem (p : Part) : (p.takeEnables).mem = p.mem := by
  unfold Part.takeEnables; exact foldl_keeps Part.mem _ (fun _ _ => by simp) _ _
@[simp] theorem Part.takeEnables_settings (p : Part) : (p.takeEnables).settings = p.settings := by
  unfold Part.takeEnables; exact foldl_keeps Part.settings _ (fun _ _ => by simp) _ _
@[simp] theorem Part.takeEnables_check (p : Part) : (p.takeEnables).check = p.check := by
  unfold Part.takeEnables; exact foldl_keeps Part.check _ (fun _ _ => by simp) _ _

@[simp] theorem Part.commit_pins (p : Part) (v : VolunteerIx) (w : Word) : (p.commit v w).pins = p.pins := by
  simp only [Part.commit]; repeat' split
  all_goals simp
@[simp] theorem Part.commit_bus (p : Part) (v : VolunteerIx) (w : Word) : (p.commit v w).bus = p.bus := by
  simp only [Part.commit]; repeat' split
  all_goals simp
@[simp] theorem Part.commit_mem (p : Part) (v : VolunteerIx) (w : Word) : (p.commit v w).mem = p.mem := by
  simp only [Part.commit]; repeat' split
  all_goals simp
@[simp] theorem Part.commit_settings (p : Part) (v : VolunteerIx) (w : Word) : (p.commit v w).settings = p.settings := by
  simp only [Part.commit]; repeat' split
  all_goals simp
@[simp] theorem Part.commit_check (p : Part) (v : VolunteerIx) (w : Word) : (p.commit v w).check = p.check := by
  simp only [Part.commit]; repeat' split
  all_goals simp

@[simp] theorem Part.openSlot_pins (p : Part) (s : Slot) (k : Nat) : (p.openSlot s k).pins = p.pins := by
  simp [Part.openSlot]
@[simp] theorem Part.openSlot_bus (p : Part) (s : Slot) (k : Nat) : (p.openSlot s k).bus = p.bus := by
  simp [Part.openSlot]
@[simp] theorem Part.openSlot_mem (p : Part) (s : Slot) (k : Nat) : (p.openSlot s k).mem = p.mem := by
  simp [Part.openSlot]
@[simp] theorem Part.openSlot_settings (p : Part) (s : Slot) (k : Nat) : (p.openSlot s k).settings = p.settings := by
  simp [Part.openSlot]
@[simp] theorem Part.openSlot_roster (p : Part) (s : Slot) (k : Nat) : (p.openSlot s k).roster = p.roster := by
  simp [Part.openSlot]
@[simp] theorem Part.openSlot_units (p : Part) (s : Slot) (k : Nat) : (p.openSlot s k).units = p.units := by
  simp [Part.openSlot]
@[simp] theorem Part.openSlot_scan (p : Part) (s : Slot) (k : Nat) : (p.openSlot s k).scan = p.scan := by
  simp [Part.openSlot]
@[simp] theorem Part.openSlot_notify (p : Part) (s : Slot) (k : Nat) : (p.openSlot s k).notify = p.notify := by
  simp [Part.openSlot]
@[simp] theorem Part.openSlot_check (p : Part) (s : Slot) (k : Nat) : (p.openSlot s k).check = p.check := by
  simp [Part.openSlot]

@[simp] theorem Part.standDownSlot_pins (p : Part) (s : Slot) : (p.standDownSlot s).pins = p.pins := by
  unfold Part.standDownSlot; exact foldl_keeps Part.pins _ (fun _ _ => by simp) _ _
@[simp] theorem Part.standDownSlot_bus (p : Part) (s : Slot) : (p.standDownSlot s).bus = p.bus := by
  unfold Part.standDownSlot; exact foldl_keeps Part.bus _ (fun _ _ => by simp) _ _
@[simp] theorem Part.standDownSlot_mem (p : Part) (s : Slot) : (p.standDownSlot s).mem = p.mem := by
  unfold Part.standDownSlot; exact foldl_keeps Part.mem _ (fun _ _ => by simp) _ _
@[simp] theorem Part.standDownSlot_settings (p : Part) (s : Slot) : (p.standDownSlot s).settings = p.settings := by
  unfold Part.standDownSlot; exact foldl_keeps Part.settings _ (fun _ _ => by simp) _ _
@[simp] theorem Part.standDownSlot_roster (p : Part) (s : Slot) : (p.standDownSlot s).roster = p.roster := by
  unfold Part.standDownSlot; exact foldl_keeps Part.roster _ (fun _ _ => by simp) _ _
@[simp] theorem Part.standDownSlot_notify (p : Part) (s : Slot) : (p.standDownSlot s).notify = p.notify := by
  unfold Part.standDownSlot; exact foldl_keeps Part.notify _ (fun _ _ => by simp) _ _
@[simp] theorem Part.standDownSlot_check (p : Part) (s : Slot) : (p.standDownSlot s).check = p.check := by
  unfold Part.standDownSlot; exact foldl_keeps Part.check _ (fun _ _ => by simp) _ _

@[simp] theorem Part.freeIncident_pins (p : Part) (s : Slot) : (p.freeIncident s).pins = p.pins := by
  simp [Part.freeIncident]
@[simp] theorem Part.freeIncident_bus (p : Part) (s : Slot) : (p.freeIncident s).bus = p.bus := by
  simp [Part.freeIncident]
@[simp] theorem Part.freeIncident_mem (p : Part) (s : Slot) : (p.freeIncident s).mem = p.mem := by
  simp [Part.freeIncident]
@[simp] theorem Part.freeIncident_settings (p : Part) (s : Slot) : (p.freeIncident s).settings = p.settings := by
  simp [Part.freeIncident]
@[simp] theorem Part.freeIncident_roster (p : Part) (s : Slot) : (p.freeIncident s).roster = p.roster := by
  simp [Part.freeIncident]
@[simp] theorem Part.freeIncident_units (p : Part) (s : Slot) : (p.freeIncident s).units = p.units := by
  simp [Part.freeIncident]
@[simp] theorem Part.freeIncident_scan (p : Part) (s : Slot) : (p.freeIncident s).scan = p.scan := by
  simp [Part.freeIncident]
@[simp] theorem Part.freeIncident_notify (p : Part) (s : Slot) : (p.freeIncident s).notify = p.notify := by
  simp [Part.freeIncident]
@[simp] theorem Part.freeIncident_check (p : Part) (s : Slot) : (p.freeIncident s).check = p.check := by
  simp [Part.freeIncident]

/-! ## The Link Check Unit -/

@[simp] theorem Part.keyBurst_pins (p : Part) : (p.keyBurst).pins = p.pins := by
  simp only [Part.keyBurst]; repeat' split
  all_goals simp
@[simp] theorem Part.keyBurst_bus (p : Part) : (p.keyBurst).bus = p.bus := by
  simp only [Part.keyBurst]; repeat' split
  all_goals simp
@[simp] theorem Part.keyBurst_mem (p : Part) : (p.keyBurst).mem = p.mem := by
  simp only [Part.keyBurst]; repeat' split
  all_goals simp
@[simp] theorem Part.keyBurst_settings (p : Part) : (p.keyBurst).settings = p.settings := by
  simp only [Part.keyBurst]; repeat' split
  all_goals simp
@[simp] theorem Part.keyBurst_roster (p : Part) : (p.keyBurst).roster = p.roster := by
  simp only [Part.keyBurst]; repeat' split
  all_goals simp
@[simp] theorem Part.keyBurst_units (p : Part) : (p.keyBurst).units = p.units := by
  simp only [Part.keyBurst]; repeat' split
  all_goals simp
@[simp] theorem Part.keyBurst_scan (p : Part) : (p.keyBurst).scan = p.scan := by
  simp only [Part.keyBurst]; repeat' split
  all_goals simp
@[simp] theorem Part.keyBurst_engine (p : Part) : (p.keyBurst).engine = p.engine := by
  simp only [Part.keyBurst]; repeat' split
  all_goals simp
@[simp] theorem Part.keyBurst_notify (p : Part) : (p.keyBurst).notify = p.notify := by
  simp only [Part.keyBurst]; repeat' split
  all_goals simp

@[simp] theorem Part.beginBurst_pins (p : Part) : (p.beginBurst).pins = p.pins := by
  simp only [Part.beginBurst]; repeat' split
  all_goals simp
@[simp] theorem Part.beginBurst_bus (p : Part) : (p.beginBurst).bus = p.bus := by
  simp only [Part.beginBurst]; repeat' split
  all_goals simp
@[simp] theorem Part.beginBurst_mem (p : Part) : (p.beginBurst).mem = p.mem := by
  simp only [Part.beginBurst]; repeat' split
  all_goals simp
@[simp] theorem Part.beginBurst_settings (p : Part) : (p.beginBurst).settings = p.settings := by
  simp only [Part.beginBurst]; repeat' split
  all_goals simp
@[simp] theorem Part.beginBurst_roster (p : Part) : (p.beginBurst).roster = p.roster := by
  simp only [Part.beginBurst]; repeat' split
  all_goals simp
@[simp] theorem Part.beginBurst_units (p : Part) : (p.beginBurst).units = p.units := by
  simp only [Part.beginBurst]; repeat' split
  all_goals simp
@[simp] theorem Part.beginBurst_scan (p : Part) : (p.beginBurst).scan = p.scan := by
  simp only [Part.beginBurst]; repeat' split
  all_goals simp
@[simp] theorem Part.beginBurst_engine (p : Part) : (p.beginBurst).engine = p.engine := by
  simp only [Part.beginBurst]; repeat' split
  all_goals simp

@[simp] theorem Part.beginTest_pins (p : Part) (k : TestKind) : (p.beginTest k).pins = p.pins := by
  simp only [Part.beginTest]; repeat' split
  all_goals simp
@[simp] theorem Part.beginTest_bus (p : Part) (k : TestKind) : (p.beginTest k).bus = p.bus := by
  simp only [Part.beginTest]; repeat' split
  all_goals simp
@[simp] theorem Part.beginTest_mem (p : Part) (k : TestKind) : (p.beginTest k).mem = p.mem := by
  simp only [Part.beginTest]; repeat' split
  all_goals simp
@[simp] theorem Part.beginTest_settings (p : Part) (k : TestKind) : (p.beginTest k).settings = p.settings := by
  simp only [Part.beginTest]; repeat' split
  all_goals simp
@[simp] theorem Part.beginTest_roster (p : Part) (k : TestKind) : (p.beginTest k).roster = p.roster := by
  simp only [Part.beginTest]; repeat' split
  all_goals simp
@[simp] theorem Part.beginTest_units (p : Part) (k : TestKind) : (p.beginTest k).units = p.units := by
  simp only [Part.beginTest]; repeat' split
  all_goals simp
@[simp] theorem Part.beginTest_scan (p : Part) (k : TestKind) : (p.beginTest k).scan = p.scan := by
  simp only [Part.beginTest]; repeat' split
  all_goals simp
@[simp] theorem Part.beginTest_engine (p : Part) (k : TestKind) : (p.beginTest k).engine = p.engine := by
  simp only [Part.beginTest]; repeat' split
  all_goals simp

@[simp] theorem Part.endTest_pins (p : Part) : (p.endTest).pins = p.pins := by
  simp [Part.endTest]
@[simp] theorem Part.endTest_bus (p : Part) : (p.endTest).bus = p.bus := by
  simp [Part.endTest]
@[simp] theorem Part.endTest_mem (p : Part) : (p.endTest).mem = p.mem := by
  simp [Part.endTest]
@[simp] theorem Part.endTest_settings (p : Part) : (p.endTest).settings = p.settings := by
  simp [Part.endTest]
@[simp] theorem Part.endTest_roster (p : Part) : (p.endTest).roster = p.roster := by
  simp [Part.endTest]
@[simp] theorem Part.endTest_units (p : Part) : (p.endTest).units = p.units := by
  simp [Part.endTest]
@[simp] theorem Part.endTest_scan (p : Part) : (p.endTest).scan = p.scan := by
  simp [Part.endTest]
@[simp] theorem Part.endTest_engine (p : Part) : (p.endTest).engine = p.engine := by
  simp [Part.endTest]
@[simp] theorem Part.endTest_notify (p : Part) : (p.endTest).notify = p.notify := by
  simp [Part.endTest]

@[simp] theorem Part.judgeTests_pins (p : Part) : (p.judgeTests).pins = p.pins := by
  simp only [Part.judgeTests]; repeat' split
  all_goals simp
@[simp] theorem Part.judgeTests_bus (p : Part) : (p.judgeTests).bus = p.bus := by
  simp only [Part.judgeTests]; repeat' split
  all_goals simp
@[simp] theorem Part.judgeTests_mem (p : Part) : (p.judgeTests).mem = p.mem := by
  simp only [Part.judgeTests]; repeat' split
  all_goals simp
@[simp] theorem Part.judgeTests_settings (p : Part) : (p.judgeTests).settings = p.settings := by
  simp only [Part.judgeTests]; repeat' split
  all_goals simp
@[simp] theorem Part.judgeTests_roster (p : Part) : (p.judgeTests).roster = p.roster := by
  simp only [Part.judgeTests]; repeat' split
  all_goals simp
@[simp] theorem Part.judgeTests_units (p : Part) : (p.judgeTests).units = p.units := by
  simp only [Part.judgeTests]; repeat' split
  all_goals simp
@[simp] theorem Part.judgeTests_scan (p : Part) : (p.judgeTests).scan = p.scan := by
  simp only [Part.judgeTests]; repeat' split
  all_goals simp
@[simp] theorem Part.judgeTests_engine (p : Part) : (p.judgeTests).engine = p.engine := by
  simp only [Part.judgeTests]; repeat' split
  all_goals simp

@[simp] theorem Part.endListen_pins (p : Part) : (p.endListen).pins = p.pins := by
  simp only [Part.endListen]; repeat' split
  all_goals simp
@[simp] theorem Part.endListen_bus (p : Part) : (p.endListen).bus = p.bus := by
  simp only [Part.endListen]; repeat' split
  all_goals simp
@[simp] theorem Part.endListen_mem (p : Part) : (p.endListen).mem = p.mem := by
  simp only [Part.endListen]; repeat' split
  all_goals simp
@[simp] theorem Part.endListen_roster (p : Part) : (p.endListen).roster = p.roster := by
  simp only [Part.endListen]; repeat' split
  all_goals simp
@[simp] theorem Part.endListen_units (p : Part) : (p.endListen).units = p.units := by
  simp only [Part.endListen]; repeat' split
  all_goals simp
@[simp] theorem Part.endListen_scan (p : Part) : (p.endListen).scan = p.scan := by
  simp only [Part.endListen]; repeat' split
  all_goals simp
@[simp] theorem Part.endListen_engine (p : Part) : (p.endListen).engine = p.engine := by
  simp only [Part.endListen]; repeat' split
  all_goals simp

@[simp] theorem Part.burstSent_pins (p : Part) : (p.burstSent).pins = p.pins := by
  simp only [Part.burstSent]; repeat' split
  all_goals simp
@[simp] theorem Part.burstSent_bus (p : Part) : (p.burstSent).bus = p.bus := by
  simp only [Part.burstSent]; repeat' split
  all_goals simp
@[simp] theorem Part.burstSent_mem (p : Part) : (p.burstSent).mem = p.mem := by
  simp only [Part.burstSent]; repeat' split
  all_goals simp
@[simp] theorem Part.burstSent_settings (p : Part) : (p.burstSent).settings = p.settings := by
  simp only [Part.burstSent]; repeat' split
  all_goals simp
@[simp] theorem Part.burstSent_roster (p : Part) : (p.burstSent).roster = p.roster := by
  simp only [Part.burstSent]; repeat' split
  all_goals simp
@[simp] theorem Part.burstSent_units (p : Part) : (p.burstSent).units = p.units := by
  simp only [Part.burstSent]; repeat' split
  all_goals simp
@[simp] theorem Part.burstSent_scan (p : Part) : (p.burstSent).scan = p.scan := by
  simp only [Part.burstSent]; repeat' split
  all_goals simp
@[simp] theorem Part.burstSent_engine (p : Part) : (p.burstSent).engine = p.engine := by
  simp only [Part.burstSent]; repeat' split
  all_goals simp
@[simp] theorem Part.burstSent_notify (p : Part) : (p.burstSent).notify = p.notify := by
  simp only [Part.burstSent]; repeat' split
  all_goals simp

@[simp] theorem Part.armListen_pins (p : Part) : (p.armListen).pins = p.pins := by
  simp only [Part.armListen]; repeat' split
  all_goals simp
@[simp] theorem Part.armListen_bus (p : Part) : (p.armListen).bus = p.bus := by
  simp only [Part.armListen]; repeat' split
  all_goals simp
@[simp] theorem Part.armListen_mem (p : Part) : (p.armListen).mem = p.mem := by
  simp only [Part.armListen]; repeat' split
  all_goals simp
@[simp] theorem Part.armListen_settings (p : Part) : (p.armListen).settings = p.settings := by
  simp only [Part.armListen]; repeat' split
  all_goals simp
@[simp] theorem Part.armListen_roster (p : Part) : (p.armListen).roster = p.roster := by
  simp only [Part.armListen]; repeat' split
  all_goals simp
@[simp] theorem Part.armListen_units (p : Part) : (p.armListen).units = p.units := by
  simp only [Part.armListen]; repeat' split
  all_goals simp
@[simp] theorem Part.armListen_scan (p : Part) : (p.armListen).scan = p.scan := by
  simp only [Part.armListen]; repeat' split
  all_goals simp
@[simp] theorem Part.armListen_engine (p : Part) : (p.armListen).engine = p.engine := by
  simp only [Part.armListen]; repeat' split
  all_goals simp
@[simp] theorem Part.armListen_notify (p : Part) : (p.armListen).notify = p.notify := by
  simp only [Part.armListen]; repeat' split
  all_goals simp

@[simp] theorem Part.leadInHeard_pins (p : Part) : (p.leadInHeard).pins = p.pins := by
  simp only [Part.leadInHeard]; repeat' split
  all_goals simp
@[simp] theorem Part.leadInHeard_bus (p : Part) : (p.leadInHeard).bus = p.bus := by
  simp only [Part.leadInHeard]; repeat' split
  all_goals simp
@[simp] theorem Part.leadInHeard_mem (p : Part) : (p.leadInHeard).mem = p.mem := by
  simp only [Part.leadInHeard]; repeat' split
  all_goals simp
@[simp] theorem Part.leadInHeard_settings (p : Part) : (p.leadInHeard).settings = p.settings := by
  simp only [Part.leadInHeard]; repeat' split
  all_goals simp
@[simp] theorem Part.leadInHeard_roster (p : Part) : (p.leadInHeard).roster = p.roster := by
  simp only [Part.leadInHeard]; repeat' split
  all_goals simp
@[simp] theorem Part.leadInHeard_units (p : Part) : (p.leadInHeard).units = p.units := by
  simp only [Part.leadInHeard]; repeat' split
  all_goals simp
@[simp] theorem Part.leadInHeard_scan (p : Part) : (p.leadInHeard).scan = p.scan := by
  simp only [Part.leadInHeard]; repeat' split
  all_goals simp
@[simp] theorem Part.leadInHeard_engine (p : Part) : (p.leadInHeard).engine = p.engine := by
  simp only [Part.leadInHeard]; repeat' split
  all_goals simp
@[simp] theorem Part.leadInHeard_notify (p : Part) : (p.leadInHeard).notify = p.notify := by
  simp only [Part.leadInHeard]; repeat' split
  all_goals simp

@[simp] theorem Part.judgePlace_pins (p : Part) (x : Place) (w : Word) : (p.judgePlace x w).pins = p.pins := by
  simp only [Part.judgePlace]; repeat' split
  all_goals simp
@[simp] theorem Part.judgePlace_bus (p : Part) (x : Place) (w : Word) : (p.judgePlace x w).bus = p.bus := by
  simp only [Part.judgePlace]; repeat' split
  all_goals simp
@[simp] theorem Part.judgePlace_mem (p : Part) (x : Place) (w : Word) : (p.judgePlace x w).mem = p.mem := by
  simp only [Part.judgePlace]; repeat' split
  all_goals simp
@[simp] theorem Part.judgePlace_settings (p : Part) (x : Place) (w : Word) : (p.judgePlace x w).settings = p.settings := by
  simp only [Part.judgePlace]; repeat' split
  all_goals simp
@[simp] theorem Part.judgePlace_roster (p : Part) (x : Place) (w : Word) : (p.judgePlace x w).roster = p.roster := by
  simp only [Part.judgePlace]; repeat' split
  all_goals simp
@[simp] theorem Part.judgePlace_units (p : Part) (x : Place) (w : Word) : (p.judgePlace x w).units = p.units := by
  simp only [Part.judgePlace]; repeat' split
  all_goals simp
@[simp] theorem Part.judgePlace_scan (p : Part) (x : Place) (w : Word) : (p.judgePlace x w).scan = p.scan := by
  simp only [Part.judgePlace]; repeat' split
  all_goals simp
@[simp] theorem Part.judgePlace_engine (p : Part) (x : Place) (w : Word) : (p.judgePlace x w).engine = p.engine := by
  simp only [Part.judgePlace]; repeat' split
  all_goals simp
@[simp] theorem Part.judgePlace_notify (p : Part) (x : Place) (w : Word) : (p.judgePlace x w).notify = p.notify := by
  simp only [Part.judgePlace]; repeat' split
  all_goals simp

@[simp] theorem Part.patternWord_pins (p : Part) (w : Word) : (p.patternWord w).pins = p.pins := by
  simp only [Part.patternWord]; repeat' split
  all_goals simp
@[simp] theorem Part.patternWord_bus (p : Part) (w : Word) : (p.patternWord w).bus = p.bus := by
  simp only [Part.patternWord]; repeat' split
  all_goals simp
@[simp] theorem Part.patternWord_mem (p : Part) (w : Word) : (p.patternWord w).mem = p.mem := by
  simp only [Part.patternWord]; repeat' split
  all_goals simp
@[simp] theorem Part.patternWord_roster (p : Part) (w : Word) : (p.patternWord w).roster = p.roster := by
  simp only [Part.patternWord]; repeat' split
  all_goals simp
@[simp] theorem Part.patternWord_units (p : Part) (w : Word) : (p.patternWord w).units = p.units := by
  simp only [Part.patternWord]; repeat' split
  all_goals simp
@[simp] theorem Part.patternWord_scan (p : Part) (w : Word) : (p.patternWord w).scan = p.scan := by
  simp only [Part.patternWord]; repeat' split
  all_goals simp
@[simp] theorem Part.patternWord_engine (p : Part) (w : Word) : (p.patternWord w).engine = p.engine := by
  simp only [Part.patternWord]; repeat' split
  all_goals simp

@[simp] theorem Part.prbsGroup_pins (p : Part) (w : Word) : (p.prbsGroup w).pins = p.pins := by
  simp only [Part.prbsGroup]; repeat' split
  all_goals simp
@[simp] theorem Part.prbsGroup_bus (p : Part) (w : Word) : (p.prbsGroup w).bus = p.bus := by
  simp only [Part.prbsGroup]; repeat' split
  all_goals simp
@[simp] theorem Part.prbsGroup_mem (p : Part) (w : Word) : (p.prbsGroup w).mem = p.mem := by
  simp only [Part.prbsGroup]; repeat' split
  all_goals simp
@[simp] theorem Part.prbsGroup_roster (p : Part) (w : Word) : (p.prbsGroup w).roster = p.roster := by
  simp only [Part.prbsGroup]; repeat' split
  all_goals simp
@[simp] theorem Part.prbsGroup_units (p : Part) (w : Word) : (p.prbsGroup w).units = p.units := by
  simp only [Part.prbsGroup]; repeat' split
  all_goals simp
@[simp] theorem Part.prbsGroup_scan (p : Part) (w : Word) : (p.prbsGroup w).scan = p.scan := by
  simp only [Part.prbsGroup]; repeat' split
  all_goals simp
@[simp] theorem Part.prbsGroup_engine (p : Part) (w : Word) : (p.prbsGroup w).engine = p.engine := by
  simp only [Part.prbsGroup]; repeat' split
  all_goals simp

@[simp] theorem Part.closeListen_pins (p : Part) : (p.closeListen).pins = p.pins := by
  simp only [Part.closeListen]; repeat' split
  all_goals simp
@[simp] theorem Part.closeListen_bus (p : Part) : (p.closeListen).bus = p.bus := by
  simp only [Part.closeListen]; repeat' split
  all_goals simp
@[simp] theorem Part.closeListen_mem (p : Part) : (p.closeListen).mem = p.mem := by
  simp only [Part.closeListen]; repeat' split
  all_goals simp
@[simp] theorem Part.closeListen_roster (p : Part) : (p.closeListen).roster = p.roster := by
  simp only [Part.closeListen]; repeat' split
  all_goals simp
@[simp] theorem Part.closeListen_units (p : Part) : (p.closeListen).units = p.units := by
  simp only [Part.closeListen]; repeat' split
  all_goals simp
@[simp] theorem Part.closeListen_scan (p : Part) : (p.closeListen).scan = p.scan := by
  simp only [Part.closeListen]; repeat' split
  all_goals simp
@[simp] theorem Part.closeListen_engine (p : Part) : (p.closeListen).engine = p.engine := by
  simp only [Part.closeListen]; repeat' split
  all_goals simp

@[simp] theorem Part.cutTest_pins (p : Part) : (p.cutTest).pins = p.pins := by
  simp [Part.cutTest]
@[simp] theorem Part.cutTest_bus (p : Part) : (p.cutTest).bus = p.bus := by
  simp [Part.cutTest]
@[simp] theorem Part.cutTest_mem (p : Part) : (p.cutTest).mem = p.mem := by
  simp [Part.cutTest]
@[simp] theorem Part.cutTest_roster (p : Part) : (p.cutTest).roster = p.roster := by
  simp [Part.cutTest]
@[simp] theorem Part.cutTest_units (p : Part) : (p.cutTest).units = p.units := by
  simp [Part.cutTest]
@[simp] theorem Part.cutTest_scan (p : Part) : (p.cutTest).scan = p.scan := by
  simp [Part.cutTest]
@[simp] theorem Part.cutTest_engine (p : Part) : (p.cutTest).engine = p.engine := by
  simp [Part.cutTest]
@[simp] theorem Part.cutTest_notify (p : Part) : (p.cutTest).notify = p.notify := by
  simp [Part.cutTest]

/-! ## The Scan Controller -/

@[simp] theorem Part.sendHead_pins (p : Part) (n : Option (UnitIx × SlotKind)) : (p.sendHead n).pins = p.pins := by
  simp [Part.sendHead]
@[simp] theorem Part.sendHead_bus (p : Part) (n : Option (UnitIx × SlotKind)) : (p.sendHead n).bus = p.bus := by
  simp [Part.sendHead]
@[simp] theorem Part.sendHead_mem (p : Part) (n : Option (UnitIx × SlotKind)) : (p.sendHead n).mem = p.mem := by
  simp [Part.sendHead]
@[simp] theorem Part.sendHead_settings (p : Part) (n : Option (UnitIx × SlotKind)) : (p.sendHead n).settings = p.settings := by
  simp [Part.sendHead]
@[simp] theorem Part.sendHead_roster (p : Part) (n : Option (UnitIx × SlotKind)) : (p.sendHead n).roster = p.roster := by
  simp [Part.sendHead]
@[simp] theorem Part.sendHead_units (p : Part) (n : Option (UnitIx × SlotKind)) : (p.sendHead n).units = p.units := by
  simp [Part.sendHead]
@[simp] theorem Part.sendHead_engine (p : Part) (n : Option (UnitIx × SlotKind)) : (p.sendHead n).engine = p.engine := by
  simp [Part.sendHead]
@[simp] theorem Part.sendHead_notify (p : Part) (n : Option (UnitIx × SlotKind)) : (p.sendHead n).notify = p.notify := by
  simp [Part.sendHead]
@[simp] theorem Part.sendHead_check (p : Part) (n : Option (UnitIx × SlotKind)) : (p.sendHead n).check = p.check := by
  simp [Part.sendHead]

@[simp] theorem Part.beginSlot_pins (p : Part) (u : UnitIx) (k : SlotKind) : (p.beginSlot u k).pins = p.pins := by
  simp [Part.beginSlot]
@[simp] theorem Part.beginSlot_bus (p : Part) (u : UnitIx) (k : SlotKind) : (p.beginSlot u k).bus = p.bus := by
  simp [Part.beginSlot]
@[simp] theorem Part.beginSlot_mem (p : Part) (u : UnitIx) (k : SlotKind) : (p.beginSlot u k).mem = p.mem := by
  simp [Part.beginSlot]
@[simp] theorem Part.beginSlot_settings (p : Part) (u : UnitIx) (k : SlotKind) : (p.beginSlot u k).settings = p.settings := by
  simp [Part.beginSlot]
@[simp] theorem Part.beginSlot_roster (p : Part) (u : UnitIx) (k : SlotKind) : (p.beginSlot u k).roster = p.roster := by
  simp [Part.beginSlot]
@[simp] theorem Part.beginSlot_engine (p : Part) (u : UnitIx) (k : SlotKind) : (p.beginSlot u k).engine = p.engine := by
  simp [Part.beginSlot]
@[simp] theorem Part.beginSlot_notify (p : Part) (u : UnitIx) (k : SlotKind) : (p.beginSlot u k).notify = p.notify := by
  simp [Part.beginSlot]
@[simp] theorem Part.beginSlot_check (p : Part) (u : UnitIx) (k : SlotKind) : (p.beginSlot u k).check = p.check := by
  simp [Part.beginSlot]

@[simp] theorem Part.giveSlot_pins (p : Part) (u : UnitIx) (k : SlotKind) : (p.giveSlot u k).pins = p.pins := by
  simp only [Part.giveSlot]; repeat' split
  all_goals simp
@[simp] theorem Part.giveSlot_bus (p : Part) (u : UnitIx) (k : SlotKind) : (p.giveSlot u k).bus = p.bus := by
  simp only [Part.giveSlot]; repeat' split
  all_goals simp
@[simp] theorem Part.giveSlot_mem (p : Part) (u : UnitIx) (k : SlotKind) : (p.giveSlot u k).mem = p.mem := by
  simp only [Part.giveSlot]; repeat' split
  all_goals simp
@[simp] theorem Part.giveSlot_settings (p : Part) (u : UnitIx) (k : SlotKind) : (p.giveSlot u k).settings = p.settings := by
  simp only [Part.giveSlot]; repeat' split
  all_goals simp
@[simp] theorem Part.giveSlot_roster (p : Part) (u : UnitIx) (k : SlotKind) : (p.giveSlot u k).roster = p.roster := by
  simp only [Part.giveSlot]; repeat' split
  all_goals simp
@[simp] theorem Part.giveSlot_engine (p : Part) (u : UnitIx) (k : SlotKind) : (p.giveSlot u k).engine = p.engine := by
  simp only [Part.giveSlot]; repeat' split
  all_goals simp
@[simp] theorem Part.giveSlot_notify (p : Part) (u : UnitIx) (k : SlotKind) : (p.giveSlot u k).notify = p.notify := by
  simp only [Part.giveSlot]; repeat' split
  all_goals simp
@[simp] theorem Part.giveSlot_check (p : Part) (u : UnitIx) (k : SlotKind) : (p.giveSlot u k).check = p.check := by
  simp only [Part.giveSlot]; repeat' split
  all_goals simp

@[simp] theorem Part.takeLink_pins (p : Part) : (p.takeLink).pins = p.pins := by
  simp [Part.takeLink]
@[simp] theorem Part.takeLink_bus (p : Part) : (p.takeLink).bus = p.bus := by
  simp [Part.takeLink]
@[simp] theorem Part.takeLink_mem (p : Part) : (p.takeLink).mem = p.mem := by
  simp [Part.takeLink]
@[simp] theorem Part.takeLink_roster (p : Part) : (p.takeLink).roster = p.roster := by
  simp [Part.takeLink]
@[simp] theorem Part.takeLink_units (p : Part) : (p.takeLink).units = p.units := by
  simp [Part.takeLink]
@[simp] theorem Part.takeLink_scan (p : Part) : (p.takeLink).scan = p.scan := by
  simp [Part.takeLink]
@[simp] theorem Part.takeLink_engine (p : Part) : (p.takeLink).engine = p.engine := by
  simp [Part.takeLink]
@[simp] theorem Part.takeLink_notify (p : Part) : (p.takeLink).notify = p.notify := by
  simp [Part.takeLink]
@[simp] theorem Part.takeLink_check (p : Part) : (p.takeLink).check = p.check := by
  simp [Part.takeLink]

@[simp] theorem Part.startCycle_pins (p : Part) : (p.startCycle).pins = p.pins := by
  simp [Part.startCycle]
@[simp] theorem Part.startCycle_bus (p : Part) : (p.startCycle).bus = p.bus := by
  simp [Part.startCycle]
@[simp] theorem Part.startCycle_mem (p : Part) : (p.startCycle).mem = p.mem := by
  simp [Part.startCycle]
@[simp] theorem Part.startCycle_settings (p : Part) : (p.startCycle).settings = p.settings := by
  simp [Part.startCycle]
@[simp] theorem Part.startCycle_roster (p : Part) : (p.startCycle).roster = p.roster := by
  simp [Part.startCycle]
@[simp] theorem Part.startCycle_units (p : Part) : (p.startCycle).units = p.units := by
  simp [Part.startCycle]
@[simp] theorem Part.startCycle_engine (p : Part) : (p.startCycle).engine = p.engine := by
  simp [Part.startCycle]
@[simp] theorem Part.startCycle_notify (p : Part) : (p.startCycle).notify = p.notify := by
  simp [Part.startCycle]
@[simp] theorem Part.startCycle_check (p : Part) : (p.startCycle).check = p.check := by
  simp [Part.startCycle]

@[simp] theorem Part.retryLater_pins (p : Part) (c : RetryCause) : (p.retryLater c).pins = p.pins := by
  simp [Part.retryLater]
@[simp] theorem Part.retryLater_bus (p : Part) (c : RetryCause) : (p.retryLater c).bus = p.bus := by
  simp [Part.retryLater]
@[simp] theorem Part.retryLater_mem (p : Part) (c : RetryCause) : (p.retryLater c).mem = p.mem := by
  simp [Part.retryLater]
@[simp] theorem Part.retryLater_settings (p : Part) (c : RetryCause) : (p.retryLater c).settings = p.settings := by
  simp [Part.retryLater]
@[simp] theorem Part.retryLater_roster (p : Part) (c : RetryCause) : (p.retryLater c).roster = p.roster := by
  simp [Part.retryLater]
@[simp] theorem Part.retryLater_units (p : Part) (c : RetryCause) : (p.retryLater c).units = p.units := by
  simp [Part.retryLater]
@[simp] theorem Part.retryLater_engine (p : Part) (c : RetryCause) : (p.retryLater c).engine = p.engine := by
  simp [Part.retryLater]
@[simp] theorem Part.retryLater_notify (p : Part) (c : RetryCause) : (p.retryLater c).notify = p.notify := by
  simp [Part.retryLater]
@[simp] theorem Part.retryLater_check (p : Part) (c : RetryCause) : (p.retryLater c).check = p.check := by
  simp [Part.retryLater]

@[simp] theorem Part.listenFirst_pins (p : Part) : (p.listenFirst).pins = p.pins := by
  simp only [Part.listenFirst]; repeat' split
  all_goals simp
@[simp] theorem Part.listenFirst_bus (p : Part) : (p.listenFirst).bus = p.bus := by
  simp only [Part.listenFirst]; repeat' split
  all_goals simp
@[simp] theorem Part.listenFirst_mem (p : Part) : (p.listenFirst).mem = p.mem := by
  simp only [Part.listenFirst]; repeat' split
  all_goals simp
@[simp] theorem Part.listenFirst_settings (p : Part) : (p.listenFirst).settings = p.settings := by
  simp only [Part.listenFirst]; repeat' split
  all_goals simp
@[simp] theorem Part.listenFirst_roster (p : Part) : (p.listenFirst).roster = p.roster := by
  simp only [Part.listenFirst]; repeat' split
  all_goals simp
@[simp] theorem Part.listenFirst_units (p : Part) : (p.listenFirst).units = p.units := by
  simp only [Part.listenFirst]; repeat' split
  all_goals simp
@[simp] theorem Part.listenFirst_engine (p : Part) : (p.listenFirst).engine = p.engine := by
  simp only [Part.listenFirst]; repeat' split
  all_goals simp
@[simp] theorem Part.listenFirst_notify (p : Part) : (p.listenFirst).notify = p.notify := by
  simp only [Part.listenFirst]; repeat' split
  all_goals simp
@[simp] theorem Part.listenFirst_check (p : Part) : (p.listenFirst).check = p.check := by
  simp only [Part.listenFirst]; repeat' split
  all_goals simp

@[simp] theorem Part.readyCheck_pins (p : Part) : (p.readyCheck).pins = p.pins := by
  simp only [Part.readyCheck]; repeat' split
  all_goals simp
@[simp] theorem Part.readyCheck_bus (p : Part) : (p.readyCheck).bus = p.bus := by
  simp only [Part.readyCheck]; repeat' split
  all_goals simp
@[simp] theorem Part.readyCheck_mem (p : Part) : (p.readyCheck).mem = p.mem := by
  simp only [Part.readyCheck]; repeat' split
  all_goals simp
@[simp] theorem Part.readyCheck_settings (p : Part) : (p.readyCheck).settings = p.settings := by
  simp only [Part.readyCheck]; repeat' split
  all_goals simp
@[simp] theorem Part.readyCheck_roster (p : Part) : (p.readyCheck).roster = p.roster := by
  simp only [Part.readyCheck]; repeat' split
  all_goals simp
@[simp] theorem Part.readyCheck_units (p : Part) : (p.readyCheck).units = p.units := by
  simp only [Part.readyCheck]; repeat' split
  all_goals simp
@[simp] theorem Part.readyCheck_engine (p : Part) : (p.readyCheck).engine = p.engine := by
  simp only [Part.readyCheck]; repeat' split
  all_goals simp

@[simp] theorem Part.attempt_pins (p : Part) : (p.attempt).pins = p.pins := by
  simp only [Part.attempt]; repeat' split
  all_goals simp
@[simp] theorem Part.attempt_bus (p : Part) : (p.attempt).bus = p.bus := by
  simp only [Part.attempt]; repeat' split
  all_goals simp
@[simp] theorem Part.attempt_mem (p : Part) : (p.attempt).mem = p.mem := by
  simp only [Part.attempt]; repeat' split
  all_goals simp

@[simp] theorem Part.settle_pins (p : Part) : (p.settle).pins = p.pins := by
  simp only [Part.settle]; repeat' split
  all_goals simp
@[simp] theorem Part.settle_bus (p : Part) : (p.settle).bus = p.bus := by
  simp only [Part.settle]; repeat' split
  all_goals simp
@[simp] theorem Part.settle_mem (p : Part) : (p.settle).mem = p.mem := by
  simp only [Part.settle]; repeat' split
  all_goals simp

@[simp] theorem Part.stopLink_pins (p : Part) : (p.stopLink).pins = p.pins := by
  simp [Part.stopLink]
@[simp] theorem Part.stopLink_bus (p : Part) : (p.stopLink).bus = p.bus := by
  simp [Part.stopLink]
@[simp] theorem Part.stopLink_mem (p : Part) : (p.stopLink).mem = p.mem := by
  simp [Part.stopLink]

@[simp] theorem Part.refuseStop_pins (p : Part) : (p.refuseStop).pins = p.pins := by
  simp [Part.refuseStop]
@[simp] theorem Part.refuseStop_bus (p : Part) : (p.refuseStop).bus = p.bus := by
  simp [Part.refuseStop]
@[simp] theorem Part.refuseStop_mem (p : Part) : (p.refuseStop).mem = p.mem := by
  simp [Part.refuseStop]
@[simp] theorem Part.refuseStop_roster (p : Part) : (p.refuseStop).roster = p.roster := by
  simp [Part.refuseStop]
@[simp] theorem Part.refuseStop_units (p : Part) : (p.refuseStop).units = p.units := by
  simp [Part.refuseStop]
@[simp] theorem Part.refuseStop_scan (p : Part) : (p.refuseStop).scan = p.scan := by
  simp [Part.refuseStop]
@[simp] theorem Part.refuseStop_engine (p : Part) : (p.refuseStop).engine = p.engine := by
  simp [Part.refuseStop]
@[simp] theorem Part.refuseStop_check (p : Part) : (p.refuseStop).check = p.check := by
  simp [Part.refuseStop]

@[simp] theorem Part.enterHold_pins (p : Part) : (p.enterHold).pins = p.pins := by
  simp [Part.enterHold]
@[simp] theorem Part.enterHold_bus (p : Part) : (p.enterHold).bus = p.bus := by
  simp [Part.enterHold]
@[simp] theorem Part.enterHold_mem (p : Part) : (p.enterHold).mem = p.mem := by
  simp [Part.enterHold]
@[simp] theorem Part.enterHold_settings (p : Part) : (p.enterHold).settings = p.settings := by
  simp [Part.enterHold]
@[simp] theorem Part.enterHold_roster (p : Part) : (p.enterHold).roster = p.roster := by
  simp [Part.enterHold]
@[simp] theorem Part.enterHold_units (p : Part) : (p.enterHold).units = p.units := by
  simp [Part.enterHold]
@[simp] theorem Part.enterHold_engine (p : Part) : (p.enterHold).engine = p.engine := by
  simp [Part.enterHold]
@[simp] theorem Part.enterHold_notify (p : Part) : (p.enterHold).notify = p.notify := by
  simp [Part.enterHold]
@[simp] theorem Part.enterHold_check (p : Part) : (p.enterHold).check = p.check := by
  simp [Part.enterHold]

@[simp] theorem Part.holdOrStart_pins (p : Part) (b : Bool) : (p.holdOrStart b).pins = p.pins := by
  simp only [Part.holdOrStart]; repeat' split
  all_goals simp
@[simp] theorem Part.holdOrStart_bus (p : Part) (b : Bool) : (p.holdOrStart b).bus = p.bus := by
  simp only [Part.holdOrStart]; repeat' split
  all_goals simp
@[simp] theorem Part.holdOrStart_mem (p : Part) (b : Bool) : (p.holdOrStart b).mem = p.mem := by
  simp only [Part.holdOrStart]; repeat' split
  all_goals simp

@[simp] theorem Part.markChange_pins (p : Part) : (p.markChange).pins = p.pins := by
  simp only [Part.markChange]; repeat' split
  all_goals simp
@[simp] theorem Part.markChange_bus (p : Part) : (p.markChange).bus = p.bus := by
  simp only [Part.markChange]; repeat' split
  all_goals simp
@[simp] theorem Part.markChange_mem (p : Part) : (p.markChange).mem = p.mem := by
  simp only [Part.markChange]; repeat' split
  all_goals simp
@[simp] theorem Part.markChange_settings (p : Part) : (p.markChange).settings = p.settings := by
  simp only [Part.markChange]; repeat' split
  all_goals simp
@[simp] theorem Part.markChange_roster (p : Part) : (p.markChange).roster = p.roster := by
  simp only [Part.markChange]; repeat' split
  all_goals simp
@[simp] theorem Part.markChange_units (p : Part) : (p.markChange).units = p.units := by
  simp only [Part.markChange]; repeat' split
  all_goals simp
@[simp] theorem Part.markChange_engine (p : Part) : (p.markChange).engine = p.engine := by
  simp only [Part.markChange]; repeat' split
  all_goals simp
@[simp] theorem Part.markChange_check (p : Part) : (p.markChange).check = p.check := by
  simp only [Part.markChange]; repeat' split
  all_goals simp

@[simp] theorem Part.endCycle_pins (p : Part) : (p.endCycle).pins = p.pins := by
  simp only [Part.endCycle]; repeat' split
  all_goals simp
@[simp] theorem Part.endCycle_bus (p : Part) : (p.endCycle).bus = p.bus := by
  simp only [Part.endCycle]; repeat' split
  all_goals simp
@[simp] theorem Part.endCycle_mem (p : Part) : (p.endCycle).mem = p.mem := by
  simp only [Part.endCycle]; repeat' split
  all_goals simp

@[simp] theorem Part.boundary_pins (p : Part) : (p.boundary).pins = p.pins := by
  simp only [Part.boundary]; repeat' split
  all_goals simp
@[simp] theorem Part.boundary_bus (p : Part) : (p.boundary).bus = p.bus := by
  simp only [Part.boundary]; repeat' split
  all_goals simp
@[simp] theorem Part.boundary_mem (p : Part) : (p.boundary).mem = p.mem := by
  simp only [Part.boundary]; repeat' split
  all_goals simp

@[simp] theorem Part.headSent_pins (p : Part) : (p.headSent).pins = p.pins := by
  simp only [Part.headSent]; repeat' split
  all_goals simp
@[simp] theorem Part.headSent_bus (p : Part) : (p.headSent).bus = p.bus := by
  simp only [Part.headSent]; repeat' split
  all_goals simp
@[simp] theorem Part.headSent_mem (p : Part) : (p.headSent).mem = p.mem := by
  simp only [Part.headSent]; repeat' split
  all_goals simp

@[simp] theorem Part.packetSent_pins (p : Part) : (p.packetSent).pins = p.pins := by
  simp only [Part.packetSent]; repeat' split
  all_goals simp
@[simp] theorem Part.packetSent_bus (p : Part) : (p.packetSent).bus = p.bus := by
  simp only [Part.packetSent]; repeat' split
  all_goals simp
@[simp] theorem Part.packetSent_mem (p : Part) : (p.packetSent).mem = p.mem := by
  simp only [Part.packetSent]; repeat' split
  all_goals simp
@[simp] theorem Part.packetSent_settings (p : Part) : (p.packetSent).settings = p.settings := by
  simp only [Part.packetSent]; repeat' split
  all_goals simp
@[simp] theorem Part.packetSent_roster (p : Part) : (p.packetSent).roster = p.roster := by
  simp only [Part.packetSent]; repeat' split
  all_goals simp
@[simp] theorem Part.packetSent_units (p : Part) : (p.packetSent).units = p.units := by
  simp only [Part.packetSent]; repeat' split
  all_goals simp
@[simp] theorem Part.packetSent_engine (p : Part) : (p.packetSent).engine = p.engine := by
  simp only [Part.packetSent]; repeat' split
  all_goals simp
@[simp] theorem Part.packetSent_notify (p : Part) : (p.packetSent).notify = p.notify := by
  simp only [Part.packetSent]; repeat' split
  all_goals simp
@[simp] theorem Part.packetSent_check (p : Part) : (p.packetSent).check = p.check := by
  simp only [Part.packetSent]; repeat' split
  all_goals simp

@[simp] theorem Part.armReply_pins (p : Part) : (p.armReply).pins = p.pins := by
  simp only [Part.armReply]; repeat' split
  all_goals simp
@[simp] theorem Part.armReply_bus (p : Part) : (p.armReply).bus = p.bus := by
  simp only [Part.armReply]; repeat' split
  all_goals simp
@[simp] theorem Part.armReply_mem (p : Part) : (p.armReply).mem = p.mem := by
  simp only [Part.armReply]; repeat' split
  all_goals simp
@[simp] theorem Part.armReply_settings (p : Part) : (p.armReply).settings = p.settings := by
  simp only [Part.armReply]; repeat' split
  all_goals simp
@[simp] theorem Part.armReply_roster (p : Part) : (p.armReply).roster = p.roster := by
  simp only [Part.armReply]; repeat' split
  all_goals simp
@[simp] theorem Part.armReply_units (p : Part) : (p.armReply).units = p.units := by
  simp only [Part.armReply]; repeat' split
  all_goals simp
@[simp] theorem Part.armReply_engine (p : Part) : (p.armReply).engine = p.engine := by
  simp only [Part.armReply]; repeat' split
  all_goals simp
@[simp] theorem Part.armReply_notify (p : Part) : (p.armReply).notify = p.notify := by
  simp only [Part.armReply]; repeat' split
  all_goals simp
@[simp] theorem Part.armReply_check (p : Part) : (p.armReply).check = p.check := by
  simp only [Part.armReply]; repeat' split
  all_goals simp

@[simp] theorem Part.replyStarts_pins (p : Part) : (p.replyStarts).pins = p.pins := by
  simp only [Part.replyStarts]; repeat' split
  all_goals simp
@[simp] theorem Part.replyStarts_bus (p : Part) : (p.replyStarts).bus = p.bus := by
  simp only [Part.replyStarts]; repeat' split
  all_goals simp
@[simp] theorem Part.replyStarts_mem (p : Part) : (p.replyStarts).mem = p.mem := by
  simp only [Part.replyStarts]; repeat' split
  all_goals simp
@[simp] theorem Part.replyStarts_settings (p : Part) : (p.replyStarts).settings = p.settings := by
  simp only [Part.replyStarts]; repeat' split
  all_goals simp
@[simp] theorem Part.replyStarts_roster (p : Part) : (p.replyStarts).roster = p.roster := by
  simp only [Part.replyStarts]; repeat' split
  all_goals simp
@[simp] theorem Part.replyStarts_units (p : Part) : (p.replyStarts).units = p.units := by
  simp only [Part.replyStarts]; repeat' split
  all_goals simp
@[simp] theorem Part.replyStarts_engine (p : Part) : (p.replyStarts).engine = p.engine := by
  simp only [Part.replyStarts]; repeat' split
  all_goals simp
@[simp] theorem Part.replyStarts_notify (p : Part) : (p.replyStarts).notify = p.notify := by
  simp only [Part.replyStarts]; repeat' split
  all_goals simp
@[simp] theorem Part.replyStarts_check (p : Part) : (p.replyStarts).check = p.check := by
  simp only [Part.replyStarts]; repeat' split
  all_goals simp

@[simp] theorem Part.goodReply_pins (p : Part) (u : UnitIx) (r : Reply) : (p.goodReply u r).pins = p.pins := by
  simp only [Part.goodReply]; repeat' split
  all_goals simp
@[simp] theorem Part.goodReply_bus (p : Part) (u : UnitIx) (r : Reply) : (p.goodReply u r).bus = p.bus := by
  simp only [Part.goodReply]; repeat' split
  all_goals simp
@[simp] theorem Part.goodReply_mem (p : Part) (u : UnitIx) (r : Reply) : (p.goodReply u r).mem = p.mem := by
  simp only [Part.goodReply]; repeat' split
  all_goals simp
@[simp] theorem Part.goodReply_settings (p : Part) (u : UnitIx) (r : Reply) : (p.goodReply u r).settings = p.settings := by
  simp only [Part.goodReply]; repeat' split
  all_goals simp
@[simp] theorem Part.goodReply_roster (p : Part) (u : UnitIx) (r : Reply) : (p.goodReply u r).roster = p.roster := by
  simp only [Part.goodReply]; repeat' split
  all_goals simp
@[simp] theorem Part.goodReply_engine (p : Part) (u : UnitIx) (r : Reply) : (p.goodReply u r).engine = p.engine := by
  simp only [Part.goodReply]; repeat' split
  all_goals simp
@[simp] theorem Part.goodReply_check (p : Part) (u : UnitIx) (r : Reply) : (p.goodReply u r).check = p.check := by
  simp only [Part.goodReply]; repeat' split
  all_goals simp

@[simp] theorem Part.replyEvents_pins (p : Part) (u : UnitIx) (r : Reply) (b : Bool) : (p.replyEvents u r b).pins = p.pins := by
  simp [Part.replyEvents]
@[simp] theorem Part.replyEvents_bus (p : Part) (u : UnitIx) (r : Reply) (b : Bool) : (p.replyEvents u r b).bus = p.bus := by
  simp [Part.replyEvents]
@[simp] theorem Part.replyEvents_mem (p : Part) (u : UnitIx) (r : Reply) (b : Bool) : (p.replyEvents u r b).mem = p.mem := by
  simp [Part.replyEvents]
@[simp] theorem Part.replyEvents_settings (p : Part) (u : UnitIx) (r : Reply) (b : Bool) : (p.replyEvents u r b).settings = p.settings := by
  simp [Part.replyEvents]
@[simp] theorem Part.replyEvents_check (p : Part) (u : UnitIx) (r : Reply) (b : Bool) : (p.replyEvents u r b).check = p.check := by
  simp [Part.replyEvents]

@[simp] theorem Part.slotGood_pins (p : Part) (u : UnitIx) (r : Reply) : (p.slotGood u r).pins = p.pins := by
  simp [Part.slotGood]
@[simp] theorem Part.slotGood_bus (p : Part) (u : UnitIx) (r : Reply) : (p.slotGood u r).bus = p.bus := by
  simp [Part.slotGood]
@[simp] theorem Part.slotGood_mem (p : Part) (u : UnitIx) (r : Reply) : (p.slotGood u r).mem = p.mem := by
  simp [Part.slotGood]

@[simp] theorem Part.miss_pins (p : Part) (u : UnitIx) : (p.miss u).pins = p.pins := by
  simp only [Part.miss]; repeat' split
  all_goals simp
@[simp] theorem Part.miss_bus (p : Part) (u : UnitIx) : (p.miss u).bus = p.bus := by
  simp only [Part.miss]; repeat' split
  all_goals simp
@[simp] theorem Part.miss_mem (p : Part) (u : UnitIx) : (p.miss u).mem = p.mem := by
  simp only [Part.miss]; repeat' split
  all_goals simp
@[simp] theorem Part.miss_settings (p : Part) (u : UnitIx) : (p.miss u).settings = p.settings := by
  simp only [Part.miss]; repeat' split
  all_goals simp
@[simp] theorem Part.miss_roster (p : Part) (u : UnitIx) : (p.miss u).roster = p.roster := by
  simp only [Part.miss]; repeat' split
  all_goals simp
@[simp] theorem Part.miss_engine (p : Part) (u : UnitIx) : (p.miss u).engine = p.engine := by
  simp only [Part.miss]; repeat' split
  all_goals simp

@[simp] theorem Part.slotMissed_pins (p : Part) (u : UnitIx) : (p.slotMissed u).pins = p.pins := by
  simp [Part.slotMissed]
@[simp] theorem Part.slotMissed_bus (p : Part) (u : UnitIx) : (p.slotMissed u).bus = p.bus := by
  simp [Part.slotMissed]
@[simp] theorem Part.slotMissed_mem (p : Part) (u : UnitIx) : (p.slotMissed u).mem = p.mem := by
  simp [Part.slotMissed]

@[simp] theorem Part.replyIn_pins (p : Part) (r : Reply) : (p.replyIn r).pins = p.pins := by
  simp only [Part.replyIn]; repeat' split
  all_goals simp
@[simp] theorem Part.replyIn_bus (p : Part) (r : Reply) : (p.replyIn r).bus = p.bus := by
  simp only [Part.replyIn]; repeat' split
  all_goals simp
@[simp] theorem Part.replyIn_mem (p : Part) (r : Reply) : (p.replyIn r).mem = p.mem := by
  simp only [Part.replyIn]; repeat' split
  all_goals simp

@[simp] theorem Part.windowCloses_pins (p : Part) : (p.windowCloses).pins = p.pins := by
  simp only [Part.windowCloses]; repeat' split
  all_goals simp
@[simp] theorem Part.windowCloses_bus (p : Part) : (p.windowCloses).bus = p.bus := by
  simp only [Part.windowCloses]; repeat' split
  all_goals simp
@[simp] theorem Part.windowCloses_mem (p : Part) : (p.windowCloses).mem = p.mem := by
  simp only [Part.windowCloses]; repeat' split
  all_goals simp

@[simp] theorem Part.retryExpires_pins (p : Part) : (p.retryExpires).pins = p.pins := by
  simp only [Part.retryExpires]; repeat' split
  all_goals simp
@[simp] theorem Part.retryExpires_bus (p : Part) : (p.retryExpires).bus = p.bus := by
  simp only [Part.retryExpires]; repeat' split
  all_goals simp
@[simp] theorem Part.retryExpires_mem (p : Part) : (p.retryExpires).mem = p.mem := by
  simp only [Part.retryExpires]; repeat' split
  all_goals simp

@[simp] theorem Part.carrierFalls_bus (p : Part) : (p.carrierFalls).bus = p.bus := by
  simp only [Part.carrierFalls]; repeat' split
  all_goals simp
@[simp] theorem Part.carrierFalls_mem (p : Part) : (p.carrierFalls).mem = p.mem := by
  simp only [Part.carrierFalls]; repeat' split
  all_goals simp
@[simp] theorem Part.carrierFalls_settings (p : Part) : (p.carrierFalls).settings = p.settings := by
  simp only [Part.carrierFalls]; repeat' split
  all_goals simp
@[simp] theorem Part.carrierFalls_roster (p : Part) : (p.carrierFalls).roster = p.roster := by
  simp only [Part.carrierFalls]; repeat' split
  all_goals simp
@[simp] theorem Part.carrierFalls_units (p : Part) : (p.carrierFalls).units = p.units := by
  simp only [Part.carrierFalls]; repeat' split
  all_goals simp
@[simp] theorem Part.carrierFalls_engine (p : Part) : (p.carrierFalls).engine = p.engine := by
  simp only [Part.carrierFalls]; repeat' split
  all_goals simp
@[simp] theorem Part.carrierFalls_notify (p : Part) : (p.carrierFalls).notify = p.notify := by
  simp only [Part.carrierFalls]; repeat' split
  all_goals simp
@[simp] theorem Part.carrierFalls_check (p : Part) : (p.carrierFalls).check = p.check := by
  simp only [Part.carrierFalls]; repeat' split
  all_goals simp

@[simp] theorem Part.lbtExpires_pins (p : Part) : (p.lbtExpires).pins = p.pins := by
  simp only [Part.lbtExpires]; repeat' split
  all_goals simp
@[simp] theorem Part.lbtExpires_bus (p : Part) : (p.lbtExpires).bus = p.bus := by
  simp only [Part.lbtExpires]; repeat' split
  all_goals simp
@[simp] theorem Part.lbtExpires_mem (p : Part) : (p.lbtExpires).mem = p.mem := by
  simp only [Part.lbtExpires]; repeat' split
  all_goals simp
@[simp] theorem Part.lbtExpires_settings (p : Part) : (p.lbtExpires).settings = p.settings := by
  simp only [Part.lbtExpires]; repeat' split
  all_goals simp
@[simp] theorem Part.lbtExpires_roster (p : Part) : (p.lbtExpires).roster = p.roster := by
  simp only [Part.lbtExpires]; repeat' split
  all_goals simp
@[simp] theorem Part.lbtExpires_units (p : Part) : (p.lbtExpires).units = p.units := by
  simp only [Part.lbtExpires]; repeat' split
  all_goals simp
@[simp] theorem Part.lbtExpires_engine (p : Part) : (p.lbtExpires).engine = p.engine := by
  simp only [Part.lbtExpires]; repeat' split
  all_goals simp

@[simp] theorem Part.guardExpires_pins (p : Part) : (p.guardExpires).pins = p.pins := by
  simp only [Part.guardExpires]; repeat' split
  all_goals simp
@[simp] theorem Part.guardExpires_bus (p : Part) : (p.guardExpires).bus = p.bus := by
  simp only [Part.guardExpires]; repeat' split
  all_goals simp
@[simp] theorem Part.guardExpires_mem (p : Part) : (p.guardExpires).mem = p.mem := by
  simp only [Part.guardExpires]; repeat' split
  all_goals simp

@[simp] theorem Part.testCarrierFalls_bus (p : Part) : (p.testCarrierFalls).bus = p.bus := by
  simp only [Part.testCarrierFalls]; repeat' split
  all_goals simp
@[simp] theorem Part.testCarrierFalls_mem (p : Part) : (p.testCarrierFalls).mem = p.mem := by
  simp only [Part.testCarrierFalls]; repeat' split
  all_goals simp
@[simp] theorem Part.testCarrierFalls_settings (p : Part) : (p.testCarrierFalls).settings = p.settings := by
  simp only [Part.testCarrierFalls]; repeat' split
  all_goals simp
@[simp] theorem Part.testCarrierFalls_roster (p : Part) : (p.testCarrierFalls).roster = p.roster := by
  simp only [Part.testCarrierFalls]; repeat' split
  all_goals simp
@[simp] theorem Part.testCarrierFalls_units (p : Part) : (p.testCarrierFalls).units = p.units := by
  simp only [Part.testCarrierFalls]; repeat' split
  all_goals simp
@[simp] theorem Part.testCarrierFalls_scan (p : Part) : (p.testCarrierFalls).scan = p.scan := by
  simp only [Part.testCarrierFalls]; repeat' split
  all_goals simp
@[simp] theorem Part.testCarrierFalls_engine (p : Part) : (p.testCarrierFalls).engine = p.engine := by
  simp only [Part.testCarrierFalls]; repeat' split
  all_goals simp
@[simp] theorem Part.testCarrierFalls_notify (p : Part) : (p.testCarrierFalls).notify = p.notify := by
  simp only [Part.testCarrierFalls]; repeat' split
  all_goals simp

@[simp] theorem Part.testLbtExpires_pins (p : Part) : (p.testLbtExpires).pins = p.pins := by
  simp only [Part.testLbtExpires]; repeat' split
  all_goals simp
@[simp] theorem Part.testLbtExpires_bus (p : Part) : (p.testLbtExpires).bus = p.bus := by
  simp only [Part.testLbtExpires]; repeat' split
  all_goals simp
@[simp] theorem Part.testLbtExpires_mem (p : Part) : (p.testLbtExpires).mem = p.mem := by
  simp only [Part.testLbtExpires]; repeat' split
  all_goals simp
@[simp] theorem Part.testLbtExpires_settings (p : Part) : (p.testLbtExpires).settings = p.settings := by
  simp only [Part.testLbtExpires]; repeat' split
  all_goals simp
@[simp] theorem Part.testLbtExpires_roster (p : Part) : (p.testLbtExpires).roster = p.roster := by
  simp only [Part.testLbtExpires]; repeat' split
  all_goals simp
@[simp] theorem Part.testLbtExpires_units (p : Part) : (p.testLbtExpires).units = p.units := by
  simp only [Part.testLbtExpires]; repeat' split
  all_goals simp
@[simp] theorem Part.testLbtExpires_scan (p : Part) : (p.testLbtExpires).scan = p.scan := by
  simp only [Part.testLbtExpires]; repeat' split
  all_goals simp
@[simp] theorem Part.testLbtExpires_engine (p : Part) : (p.testLbtExpires).engine = p.engine := by
  simp only [Part.testLbtExpires]; repeat' split
  all_goals simp

@[simp] theorem Part.testRetryExpires_pins (p : Part) : (p.testRetryExpires).pins = p.pins := by
  simp only [Part.testRetryExpires]; repeat' split
  all_goals simp
@[simp] theorem Part.testRetryExpires_bus (p : Part) : (p.testRetryExpires).bus = p.bus := by
  simp only [Part.testRetryExpires]; repeat' split
  all_goals simp
@[simp] theorem Part.testRetryExpires_mem (p : Part) : (p.testRetryExpires).mem = p.mem := by
  simp only [Part.testRetryExpires]; repeat' split
  all_goals simp
@[simp] theorem Part.testRetryExpires_settings (p : Part) : (p.testRetryExpires).settings = p.settings := by
  simp only [Part.testRetryExpires]; repeat' split
  all_goals simp
@[simp] theorem Part.testRetryExpires_roster (p : Part) : (p.testRetryExpires).roster = p.roster := by
  simp only [Part.testRetryExpires]; repeat' split
  all_goals simp
@[simp] theorem Part.testRetryExpires_units (p : Part) : (p.testRetryExpires).units = p.units := by
  simp only [Part.testRetryExpires]; repeat' split
  all_goals simp
@[simp] theorem Part.testRetryExpires_scan (p : Part) : (p.testRetryExpires).scan = p.scan := by
  simp only [Part.testRetryExpires]; repeat' split
  all_goals simp
@[simp] theorem Part.testRetryExpires_engine (p : Part) : (p.testRetryExpires).engine = p.engine := by
  simp only [Part.testRetryExpires]; repeat' split
  all_goals simp

/-! ## The Settings Store -/

@[simp] theorem Part.takeSetting_pins (p : Part) (x : Setting) (w : Word) : (p.takeSetting x w).pins = p.pins := by
  simp only [Part.takeSetting]; repeat' split
  all_goals simp
@[simp] theorem Part.takeSetting_bus (p : Part) (x : Setting) (w : Word) : (p.takeSetting x w).bus = p.bus := by
  simp only [Part.takeSetting]; repeat' split
  all_goals simp
@[simp] theorem Part.takeSetting_mem (p : Part) (x : Setting) (w : Word) : (p.takeSetting x w).mem = p.mem := by
  simp only [Part.takeSetting]; repeat' split
  all_goals simp
@[simp] theorem Part.takeSetting_roster (p : Part) (x : Setting) (w : Word) : (p.takeSetting x w).roster = p.roster := by
  simp only [Part.takeSetting]; repeat' split
  all_goals simp
@[simp] theorem Part.takeSetting_units (p : Part) (x : Setting) (w : Word) : (p.takeSetting x w).units = p.units := by
  simp only [Part.takeSetting]; repeat' split
  all_goals simp
@[simp] theorem Part.takeSetting_scan (p : Part) (x : Setting) (w : Word) : (p.takeSetting x w).scan = p.scan := by
  simp only [Part.takeSetting]; repeat' split
  all_goals simp
@[simp] theorem Part.takeSetting_engine (p : Part) (x : Setting) (w : Word) : (p.takeSetting x w).engine = p.engine := by
  simp only [Part.takeSetting]; repeat' split
  all_goals simp
@[simp] theorem Part.takeSetting_notify (p : Part) (x : Setting) (w : Word) : (p.takeSetting x w).notify = p.notify := by
  simp only [Part.takeSetting]; repeat' split
  all_goals simp
@[simp] theorem Part.takeSetting_check (p : Part) (x : Setting) (w : Word) : (p.takeSetting x w).check = p.check := by
  simp only [Part.takeSetting]; repeat' split
  all_goals simp

@[simp] theorem Part.judgeSetting_pins (p : Part) (n : Nat) (w : Word) : (p.judgeSetting n w).pins = p.pins := by
  simp only [Part.judgeSetting]; repeat' split
  all_goals simp
@[simp] theorem Part.judgeSetting_bus (p : Part) (n : Nat) (w : Word) : (p.judgeSetting n w).bus = p.bus := by
  simp only [Part.judgeSetting]; repeat' split
  all_goals simp
@[simp] theorem Part.judgeSetting_mem (p : Part) (n : Nat) (w : Word) : (p.judgeSetting n w).mem = p.mem := by
  simp only [Part.judgeSetting]; repeat' split
  all_goals simp
@[simp] theorem Part.judgeSetting_roster (p : Part) (n : Nat) (w : Word) : (p.judgeSetting n w).roster = p.roster := by
  simp only [Part.judgeSetting]; repeat' split
  all_goals simp
@[simp] theorem Part.judgeSetting_units (p : Part) (n : Nat) (w : Word) : (p.judgeSetting n w).units = p.units := by
  simp only [Part.judgeSetting]; repeat' split
  all_goals simp
@[simp] theorem Part.judgeSetting_scan (p : Part) (n : Nat) (w : Word) : (p.judgeSetting n w).scan = p.scan := by
  simp only [Part.judgeSetting]; repeat' split
  all_goals simp
@[simp] theorem Part.judgeSetting_engine (p : Part) (n : Nat) (w : Word) : (p.judgeSetting n w).engine = p.engine := by
  simp only [Part.judgeSetting]; repeat' split
  all_goals simp
@[simp] theorem Part.judgeSetting_check (p : Part) (n : Nat) (w : Word) : (p.judgeSetting n w).check = p.check := by
  simp only [Part.judgeSetting]; repeat' split
  all_goals simp

@[simp] theorem Part.stageScanRun_pins (p : Part) (b : Bool) : (p.stageScanRun b).pins = p.pins := by
  simp [Part.stageScanRun]
@[simp] theorem Part.stageScanRun_bus (p : Part) (b : Bool) : (p.stageScanRun b).bus = p.bus := by
  simp [Part.stageScanRun]
@[simp] theorem Part.stageScanRun_mem (p : Part) (b : Bool) : (p.stageScanRun b).mem = p.mem := by
  simp [Part.stageScanRun]
@[simp] theorem Part.stageScanRun_roster (p : Part) (b : Bool) : (p.stageScanRun b).roster = p.roster := by
  simp [Part.stageScanRun]
@[simp] theorem Part.stageScanRun_units (p : Part) (b : Bool) : (p.stageScanRun b).units = p.units := by
  simp [Part.stageScanRun]
@[simp] theorem Part.stageScanRun_scan (p : Part) (b : Bool) : (p.stageScanRun b).scan = p.scan := by
  simp [Part.stageScanRun]
@[simp] theorem Part.stageScanRun_engine (p : Part) (b : Bool) : (p.stageScanRun b).engine = p.engine := by
  simp [Part.stageScanRun]
@[simp] theorem Part.stageScanRun_notify (p : Part) (b : Bool) : (p.stageScanRun b).notify = p.notify := by
  simp [Part.stageScanRun]
@[simp] theorem Part.stageScanRun_check (p : Part) (b : Bool) : (p.stageScanRun b).check = p.check := by
  simp [Part.stageScanRun]

@[simp] theorem Part.startLink_pins (p : Part) : (p.startLink).pins = p.pins := by
  simp [Part.startLink]
@[simp] theorem Part.startLink_bus (p : Part) : (p.startLink).bus = p.bus := by
  simp [Part.startLink]
@[simp] theorem Part.startLink_mem (p : Part) : (p.startLink).mem = p.mem := by
  simp [Part.startLink]

@[simp] theorem Part.scanRunOn_pins (p : Part) : (p.scanRunOn).pins = p.pins := by
  simp only [Part.scanRunOn]; repeat' split
  all_goals simp
@[simp] theorem Part.scanRunOn_bus (p : Part) : (p.scanRunOn).bus = p.bus := by
  simp only [Part.scanRunOn]; repeat' split
  all_goals simp
@[simp] theorem Part.scanRunOn_mem (p : Part) : (p.scanRunOn).mem = p.mem := by
  simp only [Part.scanRunOn]; repeat' split
  all_goals simp

@[simp] theorem Part.scanRunOff_pins (p : Part) : (p.scanRunOff).pins = p.pins := by
  simp only [Part.scanRunOff]; repeat' split
  all_goals simp
@[simp] theorem Part.scanRunOff_bus (p : Part) : (p.scanRunOff).bus = p.bus := by
  simp only [Part.scanRunOff]; repeat' split
  all_goals simp
@[simp] theorem Part.scanRunOff_mem (p : Part) : (p.scanRunOff).mem = p.mem := by
  simp only [Part.scanRunOff]; repeat' split
  all_goals simp

@[simp] theorem Part.stageTests_pins (p : Part) (t : TestEnables) : (p.stageTests t).pins = p.pins := by
  simp [Part.stageTests]
@[simp] theorem Part.stageTests_bus (p : Part) (t : TestEnables) : (p.stageTests t).bus = p.bus := by
  simp [Part.stageTests]
@[simp] theorem Part.stageTests_mem (p : Part) (t : TestEnables) : (p.stageTests t).mem = p.mem := by
  simp [Part.stageTests]
@[simp] theorem Part.stageTests_roster (p : Part) (t : TestEnables) : (p.stageTests t).roster = p.roster := by
  simp [Part.stageTests]
@[simp] theorem Part.stageTests_units (p : Part) (t : TestEnables) : (p.stageTests t).units = p.units := by
  simp [Part.stageTests]
@[simp] theorem Part.stageTests_scan (p : Part) (t : TestEnables) : (p.stageTests t).scan = p.scan := by
  simp [Part.stageTests]
@[simp] theorem Part.stageTests_engine (p : Part) (t : TestEnables) : (p.stageTests t).engine = p.engine := by
  simp [Part.stageTests]
@[simp] theorem Part.stageTests_notify (p : Part) (t : TestEnables) : (p.stageTests t).notify = p.notify := by
  simp [Part.stageTests]
@[simp] theorem Part.stageTests_check (p : Part) (t : TestEnables) : (p.stageTests t).check = p.check := by
  simp [Part.stageTests]

@[simp] theorem Part.takeTests_pins (p : Part) : (p.takeTests).pins = p.pins := by
  simp only [Part.takeTests]; repeat' split
  all_goals simp
@[simp] theorem Part.takeTests_bus (p : Part) : (p.takeTests).bus = p.bus := by
  simp only [Part.takeTests]; repeat' split
  all_goals simp
@[simp] theorem Part.takeTests_mem (p : Part) : (p.takeTests).mem = p.mem := by
  simp only [Part.takeTests]; repeat' split
  all_goals simp
@[simp] theorem Part.takeTests_roster (p : Part) : (p.takeTests).roster = p.roster := by
  simp only [Part.takeTests]; repeat' split
  all_goals simp
@[simp] theorem Part.takeTests_units (p : Part) : (p.takeTests).units = p.units := by
  simp only [Part.takeTests]; repeat' split
  all_goals simp
@[simp] theorem Part.takeTests_scan (p : Part) : (p.takeTests).scan = p.scan := by
  simp only [Part.takeTests]; repeat' split
  all_goals simp
@[simp] theorem Part.takeTests_engine (p : Part) : (p.takeTests).engine = p.engine := by
  simp only [Part.takeTests]; repeat' split
  all_goals simp

@[simp] theorem Part.testEnables_pins (p : Part) (t : TestEnables) : (p.testEnables t).pins = p.pins := by
  simp only [Part.testEnables]; repeat' split
  all_goals simp
@[simp] theorem Part.testEnables_bus (p : Part) (t : TestEnables) : (p.testEnables t).bus = p.bus := by
  simp only [Part.testEnables]; repeat' split
  all_goals simp
@[simp] theorem Part.testEnables_mem (p : Part) (t : TestEnables) : (p.testEnables t).mem = p.mem := by
  simp only [Part.testEnables]; repeat' split
  all_goals simp
@[simp] theorem Part.testEnables_roster (p : Part) (t : TestEnables) : (p.testEnables t).roster = p.roster := by
  simp only [Part.testEnables]; repeat' split
  all_goals simp
@[simp] theorem Part.testEnables_units (p : Part) (t : TestEnables) : (p.testEnables t).units = p.units := by
  simp only [Part.testEnables]; repeat' split
  all_goals simp
@[simp] theorem Part.testEnables_scan (p : Part) (t : TestEnables) : (p.testEnables t).scan = p.scan := by
  simp only [Part.testEnables]; repeat' split
  all_goals simp
@[simp] theorem Part.testEnables_engine (p : Part) (t : TestEnables) : (p.testEnables t).engine = p.engine := by
  simp only [Part.testEnables]; repeat' split
  all_goals simp

@[simp] theorem Part.takeSetupWord_pins (p : Part) (n : Nat) (w : Word) : (p.takeSetupWord n w).pins = p.pins := by
  simp only [Part.takeSetupWord]; repeat' split
  all_goals simp
@[simp] theorem Part.takeSetupWord_bus (p : Part) (n : Nat) (w : Word) : (p.takeSetupWord n w).bus = p.bus := by
  simp only [Part.takeSetupWord]; repeat' split
  all_goals simp
@[simp] theorem Part.takeSetupWord_mem (p : Part) (n : Nat) (w : Word) : (p.takeSetupWord n w).mem = p.mem := by
  simp only [Part.takeSetupWord]; repeat' split
  all_goals simp

@[simp] theorem Part.takeUnitWord0_pins (p : Part) (u : UnitIx) (w : Word) : (p.takeUnitWord0 u w).pins = p.pins := by
  simp only [Part.takeUnitWord0]; repeat' split
  all_goals simp
@[simp] theorem Part.takeUnitWord0_bus (p : Part) (u : UnitIx) (w : Word) : (p.takeUnitWord0 u w).bus = p.bus := by
  simp only [Part.takeUnitWord0]; repeat' split
  all_goals simp
@[simp] theorem Part.takeUnitWord0_mem (p : Part) (u : UnitIx) (w : Word) : (p.takeUnitWord0 u w).mem = p.mem := by
  simp only [Part.takeUnitWord0]; repeat' split
  all_goals simp
@[simp] theorem Part.takeUnitWord0_settings (p : Part) (u : UnitIx) (w : Word) : (p.takeUnitWord0 u w).settings = p.settings := by
  simp only [Part.takeUnitWord0]; repeat' split
  all_goals simp
@[simp] theorem Part.takeUnitWord0_check (p : Part) (u : UnitIx) (w : Word) : (p.takeUnitWord0 u w).check = p.check := by
  simp only [Part.takeUnitWord0]; repeat' split
  all_goals simp

/-! ## The Bus Interposer -/

@[simp] theorem Part.takeRosterWord_pins (p : Part) (v : VolunteerIx) (k : Nat) (w : Word) : (p.takeRosterWord v k w).pins = p.pins := by
  simp only [Part.takeRosterWord]; repeat' split
  all_goals simp
@[simp] theorem Part.takeRosterWord_bus (p : Part) (v : VolunteerIx) (k : Nat) (w : Word) : (p.takeRosterWord v k w).bus = p.bus := by
  simp only [Part.takeRosterWord]; repeat' split
  all_goals simp
@[simp] theorem Part.takeRosterWord_mem (p : Part) (v : VolunteerIx) (k : Nat) (w : Word) : (p.takeRosterWord v k w).mem = p.mem := by
  simp only [Part.takeRosterWord]; repeat' split
  all_goals simp

@[simp] theorem Part.takeUnitWord_pins (p : Part) (u : UnitIx) (k : Nat) (w : Word) : (p.takeUnitWord u k w).pins = p.pins := by
  simp only [Part.takeUnitWord]; repeat' split
  all_goals simp
@[simp] theorem Part.takeUnitWord_bus (p : Part) (u : UnitIx) (k : Nat) (w : Word) : (p.takeUnitWord u k w).bus = p.bus := by
  simp only [Part.takeUnitWord]; repeat' split
  all_goals simp
@[simp] theorem Part.takeUnitWord_mem (p : Part) (u : UnitIx) (k : Nat) (w : Word) : (p.takeUnitWord u k w).mem = p.mem := by
  simp only [Part.takeUnitWord]; repeat' split
  all_goals simp
@[simp] theorem Part.takeUnitWord_check (p : Part) (u : UnitIx) (k : Nat) (w : Word) : (p.takeUnitWord u k w).check = p.check := by
  simp only [Part.takeUnitWord]; repeat' split
  all_goals simp

@[simp] theorem Part.handOver_pins (p : Part) (n : Nat) (w : Word) : (p.handOver n w).pins = p.pins := by
  simp only [Part.handOver]; repeat' split
  all_goals simp
@[simp] theorem Part.handOver_bus (p : Part) (n : Nat) (w : Word) : (p.handOver n w).bus = p.bus := by
  simp only [Part.handOver]; repeat' split
  all_goals simp
@[simp] theorem Part.handOver_mem (p : Part) (n : Nat) (w : Word) : (p.handOver n w).mem = p.mem := by
  simp only [Part.handOver]; repeat' split
  all_goals simp

end Sys2Proof.Machine
end

