-- ==== Sys2Proof/Laws/Memory.lean ====
section
/-! SUPPORT. The static RAM: a read after a write, and the canonical form kept by every write. -/

namespace Sys2Proof.Machine.Memory

/-- Every listed address is above `a`. -/
theorem read_of_above (m : List Host.Cell) (a : Nat) (h : m.all (fun c => decide (a < c.1)) = true) :
    read m a = Config.blankByte := by
  induction m with
  | nil => rfl
  | cons c m ih =>
    obtain ⟨k, x⟩ := c
    simp only [List.all_cons, Bool.and_eq_true, decide_eq_true_eq] at h
    have : k ≠ a := by omega
    simp [read, this, ih h.2]

theorem all_above_mono (m : List Host.Cell) (a b : Nat) (hab : a ≤ b)
    (h : m.all (fun c => decide (b < c.1)) = true) : m.all (fun c => decide (a < c.1)) = true := by
  simp only [List.all_eq_true, decide_eq_true_eq] at h ⊢
  intro c hc
  have := h c hc
  omega

/-- Reading after a write, in a memory in canonical form. -/
theorem read_write (m : List Host.Cell) (h : wf m = true) (a b : Nat) (x : Byte) :
    read (write m a x) b = if b = a then x else read m b := by
  induction m with
  | nil =>
    unfold write
    split
    · next hx => subst hx; simp [read]
    · by_cases e : b = a
      · subst e; simp [read]
      · simp [read, e, Ne.symm e]
  | cons c m ih =>
    obtain ⟨k, y⟩ := c
    simp only [wf, Bool.and_eq_true, decide_eq_true_eq] at h
    obtain ⟨⟨hy, habove⟩, hm⟩ := h
    unfold write
    split
    · next hak =>
      split
      · next hx =>
        by_cases e : b = a
        · subst e
          have : k ≠ b := by omega
          simp [read, this, hx, read_of_above m b (all_above_mono m b k (by omega) habove)]
        · simp [e]
      · by_cases e : b = a
        · subst e; simp [read]
        · simp [read, e, Ne.symm e]
    · split
      · next hak =>
        subst hak
        split
        · next hx =>
          by_cases e : b = a
          · subst e; simp [hx, read_of_above m b habove]
          · simp [read, e, Ne.symm e]
        · by_cases e : b = a
          · subst e; simp [read]
          · simp [read, e, Ne.symm e]
      · next h1 h2 =>
        by_cases e : k = b
        · subst e
          simp [read, Ne.symm h2]
        · simp [read, e, ih hm]

theorem write_above (m : List Host.Cell) (a b : Nat) (x : Byte) (hab : a < b)
    (h : m.all (fun c => decide (a < c.1)) = true) : (write m b x).all (fun c => decide (a < c.1)) = true := by
  induction m with
  | nil => unfold write; split <;> simp [hab]
  | cons c m ih =>
    obtain ⟨k, y⟩ := c
    simp only [List.all_cons, Bool.and_eq_true, decide_eq_true_eq] at h
    unfold write
    split
    · split <;> simp [h.1, h.2, hab]
    · split
      · split <;> simp [h.2, hab]
      · simp only [List.all_cons, Bool.and_eq_true, decide_eq_true_eq]
        exact ⟨h.1, ih h.2⟩

/-- A write keeps the canonical form. -/
theorem wf_write (m : List Host.Cell) (h : wf m = true) (a : Nat) (x : Byte) : wf (write m a x) = true := by
  induction m with
  | nil => unfold write; split <;> simp_all [wf]
  | cons c m ih =>
    obtain ⟨k, y⟩ := c
    have h' := h
    simp only [wf, Bool.and_eq_true, decide_eq_true_eq] at h
    obtain ⟨⟨hy, habove⟩, hm⟩ := h
    unfold write
    split
    · next hak =>
      split
      · exact h'
      · next hx =>
        simp only [wf, Bool.and_eq_true, decide_eq_true_eq, List.all_cons]
        exact ⟨⟨hx, hak, all_above_mono m a k (by omega) habove⟩, ⟨hy, habove⟩, hm⟩
    · split
      · next hak =>
        subst hak
        split
        · exact hm
        · next hx =>
          simp only [wf, Bool.and_eq_true, decide_eq_true_eq]
          exact ⟨⟨hx, habove⟩, hm⟩
      · next h1 h2 =>
        simp only [wf, Bool.and_eq_true, decide_eq_true_eq]
        exact ⟨⟨hy, write_above m k a x (by omega) habove⟩, ih hm⟩

/-- A memory in canonical form is determined by what it reads: equal memories are equal data. -/
theorem ext_of_read (m n : List Host.Cell) (hm : wf m = true) (hn : wf n = true) (h : ∀ a, read m a = read n a) :
    m = n := by
  induction m generalizing n with
  | nil =>
    cases n with
    | nil => rfl
    | cons c n =>
      obtain ⟨k, y⟩ := c
      simp only [wf, Bool.and_eq_true, decide_eq_true_eq] at hn
      have := h k
      simp [read] at this
      exact absurd this.symm hn.1.1
  | cons c m ih =>
    obtain ⟨k, x⟩ := c
    simp only [wf, Bool.and_eq_true, decide_eq_true_eq] at hm
    obtain ⟨⟨hx, ha⟩, hm'⟩ := hm
    cases n with
    | nil =>
      have := h k
      simp [read] at this
      exact absurd this hx
    | cons d n =>
      obtain ⟨l, y⟩ := d
      simp only [wf, Bool.and_eq_true, decide_eq_true_eq] at hn
      obtain ⟨⟨hy, hb⟩, hn'⟩ := hn
      have hkl : k = l := by
        rcases Nat.lt_trichotomy k l with hlt | heq | hgt
        · have := h k
          have hl : l ≠ k := by omega
          rw [read, if_pos rfl, read, if_neg hl, read_of_above n k (all_above_mono n k l (by omega) hb)] at this
          exact absurd this hx
        · exact heq
        · have := h l
          have hl : k ≠ l := by omega
          rw [read, if_neg hl, read_of_above m l (all_above_mono m l k (by omega) ha), read, if_pos rfl] at this
          exact absurd this.symm hy
      subst hkl
      have hxy : x = y := by simpa [read] using h k
      subst hxy
      have : m = n := by
        apply ih n hm' hn'
        intro a
        by_cases e : k = a
        · subst e; rw [read_of_above m k ha, read_of_above n k hb]
        · have := h a
          simpa [read, e] using this
      rw [this]

end Sys2Proof.Machine.Memory
end

