-- ==== Sys2Proof/Laws/Bus.lean ====
section
/-! SUPPORT. The memory path in normal form: what a word or byte command is, in either data mode, once its cycles are
done and only the taking of the word is left. -/

namespace Sys2Proof.Machine

theorem wordOf_bytes (w : Word) : wordOf (lowByte w) (highByte w) = w := by
  unfold wordOf lowByte highByte
  ext i h
  rw [BitVec.getElem_append]
  by_cases hi : i < 8
  · simp [hi, BitVec.getLsbD_eq_getElem h]
  · have : i - 8 < 8 := by omega
    have e : 8 + (i - 8) = i := by omega
    simp [hi, e, BitVec.getLsbD_eq_getElem h]

theorem lowByte_wordOf (lo hi : Byte) : lowByte (wordOf lo hi) = lo := by
  unfold wordOf lowByte
  ext i h
  have h16 : i < 16 := by omega
  simp only [BitVec.getElem_setWidth]
  rw [BitVec.getLsbD_append]
  simp [h]

theorem highByte_wordOf (lo hi : Byte) : highByte (wordOf lo hi) = hi := by
  unfold wordOf highByte
  ext i h
  simp only [BitVec.getElem_setWidth, BitVec.getLsbD_ushiftRight]
  rw [BitVec.getLsbD_append]
  have : ¬ 8 + i < 8 := by omega
  simp [this, BitVec.getLsbD_eq_getElem h]

/-! ## Words -/

/-- The part once the cycles of a forwarded word are done, before the word is handed over. -/
def Part.forwardedWord (p : Part) (off : Nat) (w : Word) : Part :=
  { p with
    mem := Memory.write (Memory.write p.mem (2 * offsetAddress p.bus.straps off) (lowByte w))
      (2 * offsetAddress p.bus.straps off + 1) (highByte w)
    bus := { p.bus with
      bytePair := if p.bus.straps.data8 then none else p.bus.bytePair
      view := { memSelected := true, memRead := false, memWrite := true,
                address := BitVec.ofNat 20 (if p.bus.straps.data8 then 2 * offsetAddress p.bus.straps off + 1
                                            else offsetAddress p.bus.straps off),
                answer := 0, waited := false } } }

/-- The part once the cycles of a board write are done, before the word is taken. -/
def Part.withheldWord (p : Part) : Part :=
  { p with
    bus := { p.bus with
      bytePair := if p.bus.straps.data8 then none else p.bus.bytePair
      readHigh := none
      capture := none
      view := { memSelected := false, memRead := false, memWrite := false, address := 0, answer := 0,
                waited := false } } }

/-- A word command in a forwarded window, in either data mode. -/
theorem Part.writeWord_forwarded (p : Part) (off : Nat) (w : Word) (hr : p.pins.resetN = true)
    (hw : (windowOf off).forwarded = true) : p.writeWord off w = (p.forwardedWord off w).handOver off w := by
  have hb : windowOf off ≠ .board := by intro h; rw [h] at hw; exact absurd hw (by decide)
  have he : windowOf off ≠ .elsewhere := by intro h; rw [h] at hw; exact absurd hw (by decide)
  by_cases hd : p.bus.straps.data8 = true
  · simp only [Part.writeWord, hd, if_true, Part.writeByteAt, hr, Part.lowByteIn, Part.highByteIn, he, if_false,
      Part.byteToMemory, hb, Part.byteAddress, Part.forwardedWord]
    simp [Part.setPair, Part.ramByteWrite, Part.viewMemory, Part.onBus, Part.onMem, Part.completePair, Part.takeWord,
      hb, wordOf_bytes, hr]
  · simp only [Bool.not_eq_true] at hd
    simp [Part.writeWord, hd, Part.wordIn, hr, hb, Part.forwardedWord, Part.ramWordWrite, Part.viewMemory, Part.onBus,
      Part.onMem]

theorem windowOf_board (k : Nat) (hk : k < 4096) : windowOf (0x2000 + k) = .board := by
  unfold windowOf
  have h1 : ¬ 0x2000 + k < 0x0100 := by omega
  have h2 : ¬ (0x0800 ≤ 0x2000 + k ∧ 0x2000 + k < 0x0BC0) := by omega
  have h3 : ¬ (0x1000 ≤ 0x2000 + k ∧ 0x2000 + k < 0x1140) := by omega
  have h4 : 0x2000 ≤ 0x2000 + k ∧ 0x2000 + k < 0x3000 := by omega
  rw [if_neg h1, if_neg h2, if_neg h3, if_pos h4]

/-- A board write command, in either data mode. -/
theorem Part.writeBoard_eq (p : Part) (k : Nat) (w : Word) (hk : k < 4096) (hr : p.pins.resetN = true) :
    p.writeBoard k w = p.withheldWord.takeBoardWord k w := by
  have hb := windowOf_board k hk
  have hs : 0x2000 + k - 0x2000 = k := by omega
  by_cases hd : p.bus.straps.data8 = true
  · simp only [Part.writeBoard, Part.writeWord, hd, if_true, Part.writeByteAt, hr, Part.lowByteIn, Part.highByteIn,
      Part.byteToMemory, hb]
    simp [Part.beginBoardWrite, Part.setPair, Part.viewBoard, Part.onBus, Part.completePair, Part.takeWord, hb,
      wordOf_bytes, Part.withheldWord, hr, hd]
  · simp only [Bool.not_eq_true] at hd
    simp [Part.writeBoard, Part.writeWord, hd, Part.wordIn, hr, hb, Part.withheldWord, Part.beginBoardWrite,
      Part.viewBoard, Part.onBus]

/-- While RESET-N is low a word command is plain (R16): it writes its two bytes and nothing else. -/
theorem Part.writeWord_reset (p : Part) (off : Nat) (w : Word) (hr : p.pins.resetN = false) :
    ∃ v, p.writeWord off w =
      { p with mem := Memory.write (Memory.write p.mem (2 * offsetAddress p.bus.straps off) (lowByte w))
                 (2 * offsetAddress p.bus.straps off + 1) (highByte w),
               bus := { p.bus with view := v } } := by
  refine ⟨(p.writeWord off w).bus.view, ?_⟩
  by_cases hd : p.bus.straps.data8 = true
  · simp [Part.writeWord, hd, Part.writeByteAt, hr, Part.byteAddress, Part.ramByteWrite, Part.viewMemory, Part.onBus,
      Part.onMem]
  · simp only [Bool.not_eq_true] at hd
    simp [Part.writeWord, hd, Part.wordIn, hr, Part.ramWordWrite, Part.viewMemory, Part.onBus, Part.onMem]

/-! ## What a forwarded or withheld word leaves -/

@[simp] theorem Part.forwardedWord_settings (p : Part) (n : Nat) (w : Word) :
    (p.forwardedWord n w).settings = p.settings := rfl
@[simp] theorem Part.forwardedWord_roster (p : Part) (n : Nat) (w : Word) :
    (p.forwardedWord n w).roster = p.roster := rfl
@[simp] theorem Part.forwardedWord_units (p : Part) (n : Nat) (w : Word) :
    (p.forwardedWord n w).units = p.units := rfl
@[simp] theorem Part.forwardedWord_scan (p : Part) (n : Nat) (w : Word) :
    (p.forwardedWord n w).scan = p.scan := rfl
@[simp] theorem Part.forwardedWord_engine (p : Part) (n : Nat) (w : Word) :
    (p.forwardedWord n w).engine = p.engine := rfl
@[simp] theorem Part.forwardedWord_notify (p : Part) (n : Nat) (w : Word) :
    (p.forwardedWord n w).notify = p.notify := rfl
@[simp] theorem Part.forwardedWord_check (p : Part) (n : Nat) (w : Word) :
    (p.forwardedWord n w).check = p.check := rfl
@[simp] theorem Part.forwardedWord_pins (p : Part) (n : Nat) (w : Word) :
    (p.forwardedWord n w).pins = p.pins := rfl
@[simp] theorem Part.withheldWord_settings (p : Part) : p.withheldWord.settings = p.settings := rfl
@[simp] theorem Part.withheldWord_roster (p : Part) : p.withheldWord.roster = p.roster := rfl
@[simp] theorem Part.withheldWord_units (p : Part) : p.withheldWord.units = p.units := rfl
@[simp] theorem Part.withheldWord_scan (p : Part) : p.withheldWord.scan = p.scan := rfl
@[simp] theorem Part.withheldWord_engine (p : Part) : p.withheldWord.engine = p.engine := rfl
@[simp] theorem Part.withheldWord_notify (p : Part) : p.withheldWord.notify = p.notify := rfl
@[simp] theorem Part.withheldWord_check (p : Part) : p.withheldWord.check = p.check := rfl
@[simp] theorem Part.withheldWord_pins (p : Part) : p.withheldWord.pins = p.pins := rfl
@[simp] theorem Part.withheldWord_mem (p : Part) : p.withheldWord.mem = p.mem := rfl

end Sys2Proof.Machine
end

