-- ==== Sys2Proof/Laws/Moves.lean ====
section
/-! SUPPORT. What a step can do, said once: every command is a run of the moves listed here. An invariant that every
move keeps is kept by every step. -/

namespace Sys2Proof.Machine

/-! ## The moves -/

/-- What can happen to one unit entry. -/
inductive UnitMove : UnitEntry → UnitEntry → Prop
  | word0 (e : UnitEntry) (w : BitVec 4) (b : Bool) : UnitMove e { e with watch := w, stagedEnable := b }
  | inquiry (e : UnitEntry) (c : BitVec 4) : UnitMove e (e.newInquiry c)
  | turnOn (e : UnitEntry) : UnitMove e e.turnOn
  | turnOff (e : UnitEntry) : UnitMove e e.turnOff
  | install (e : UnitEntry) (s : Seat) (m : Message) (h : e.enabled = true) : UnitMove e (e.onSeat s fun x => x.install m)
  | hold (e : UnitEntry) (s : Seat) (m : Message) (h : e.enabled = true) : UnitMove e (e.onSeat s fun x => x.hold m)
  | packet (e : UnitEntry) : UnitMove e e.beginPacket
  | heard (e : UnitEntry) : UnitMove e e.heardFrom
  | flags (e : UnitEntry) (x : BitVec 4) : UnitMove e (e.takeFlags x)
  | missed (e : UnitEntry) (n : Nat) : UnitMove e (e.missed n)
  | unchanged (e : UnitEntry) : UnitMove e { e with changed := false }
  | confirm (e : UnitEntry) (s : Seat) (b : Bool) : UnitMove e (e.onSeat s fun x => x.confirm b)
  | installHeld (e : UnitEntry) (s : Seat) : UnitMove e (e.onSeat s SeatState.installHeld)
  | answered (e : UnitEntry) (a b : Word) : UnitMove e { e with inquiry := e.inquiry.answered a b }
  | unanswered (e : UnitEntry) : UnitMove e { e with inquiry := e.inquiry.unanswered }
  | installWaiting (e : UnitEntry) : UnitMove e e.installWaiting
  | echo (e : UnitEntry) : UnitMove e { e with echo := true }
  | accept (e : UnitEntry) (s : Seat) (b : Bool) :
      UnitMove e { e.onSeat s fun x => { x with lastEvent := some b } with echo := true }

/-- What can happen to one incident record, its opening and closing apart. -/
inductive IncidentMove : Incident → Incident → Prop
  | admitRole (i : Incident) (v : VolunteerIx) (r : RoleIx) (eta : Nat) (roles : BitVec 6) (ho : i.state ≠ .free)
      (h : i.assignment roles = some (.role r)) :
      IncidentMove i (i.enlist { volunteer := v, assignment := .role r, eta := eta }).judgeComplete
  | admitExtra (i : Incident) (v : VolunteerIx) (eta : Nat) (roles : BitVec 6) (ho : i.state ≠ .free)
      (h : i.assignment roles = some .extra) :
      IncidentMove i (i.enlist { volunteer := v, assignment := .extra, eta := eta })
  | remove (i : Incident) (v : VolunteerIx) : IncidentMove i (i.remove v).judgeReturn
  | advance (i : Incident) (h : i.state = .calling) : IncidentMove i i.advance
  | amend (i : Incident) (st : Staging) (ho : i.state ≠ .free) (hp : st.priority.toNat ≠ 0 ∧ st.priority.toNat ≤ 3)
      (hd : st.demand ≠ 0) (hc : st.cap.toNat ≤ 31) (h : i.amendFloor st ≤ st.cap.toNat) : IncidentMove i (i.amended st).judgeComplete.judgeReturn
  | tick (i : Incident) : IncidentMove i i.tick
  | offer (i : Incident) : IncidentMove i i.countOffer
  | decline (i : Incident) : IncidentMove i i.countDecline
  | turnedBack (i : Incident) : IncidentMove i i.countTurnedBack

/-- What can happen to the Settings Store. -/
inductive SettingsMove : SettingsStore → SettingsStore → Prop
  | put (s : SettingsStore) (x : Setting) (w : Word) (h : x.admits w = true) (now : Bool) :
      SettingsMove s { s with staged := s.staged.put x w, active := if now then s.active.put x w else s.active }
  | link (s : SettingsStore) : SettingsMove s { s with active := { s.active with link := s.staged.link } }
  | run (s : SettingsStore) (a b : Bool) :
      SettingsMove s { s with staged := { s.staged with scanRun := a }, active := { s.active with scanRun := b } }
  | tests (s : SettingsStore) (a b : TestEnables) :
      SettingsMove s { s with staged := { s.staged with tests := a }, active := { s.active with tests := b } }
  | error (s : SettingsStore) (e : ErrorRecord) (h : s.error.count ≤ 255 → e.count ≤ 255) : SettingsMove s { s with error := e }

/-- Every counter of the Link Check Unit is within its range (R158). -/
def LinkCheck.bounded (c : LinkCheck) : Prop :=
  c.corrupt ≤ 65535 ∧ c.forced ≤ 255 ∧ c.notReady ≤ 255 ∧ c.silent ≤ 255 ∧ c.overruns ≤ 255 ∧ c.matched ≤ 65535 ∧
    c.mismatched ≤ 65535

/-- One move of the part. -/
inductive Move : Part → Part → Prop
  | pins (p : Part) (f : Pins → Pins) : Move p (p.onPins f)
  | bus (p : Part) (f : Bus → Bus) : Move p (p.onBus f)
  | mem (p : Part) (a : Nat) (x : Byte) : Move p (p.onMem fun m => Memory.write m a x)
  | settings (p : Part) (f : SettingsStore → SettingsStore) (h : SettingsMove p.settings (f p.settings)) :
      Move p (p.onSettings f)
  | stageWord (p : Part) (v : VolunteerIx) (k : Nat) (w : Word) : Move p (p.onRosterEntry v fun e => e.stage k w)
  | setPending (p : Part) (v : VolunteerIx) (r : Record) (h : p.commitCheck v r = none) :
      Move p (p.onRosterEntry v fun e => { e with pendingRecord := some r })
  | clearPending (p : Part) (v : VolunteerIx) : Move p (p.onRosterEntry v fun e => { e with pendingRecord := none })
  | applyCommitted (p : Part) (v : VolunteerIx) (r : Record) (h : p.commitCheck v r = none) : Move p (p.applyRecord v r)
  | applyPending (p : Part) (v : VolunteerIx) (r : Record) (h : p.roster.entries[v].pendingRecord = some r)
      (hs : (r.present && p.seatTaken v r) = false) :
      Move p ((p.onRosterEntry v fun e => { e with pendingRecord := none }).applyRecord v r)
  | home (p : Part) (v : VolunteerIx) (b : Bool) : Move p (p.setHome v b)
  | reject (p : Part) (x : RejectRecord) (h : p.roster.reject.count ≤ 255 → x.count ≤ 255) :
      Move p (p.onRoster fun r => { r with reject := x })
  | unit (p : Part) (u : UnitIx) (f : UnitEntry → UnitEntry) (h : UnitMove p.units[u] (f p.units[u])) :
      Move p (p.onUnit u f)
  | scan (p : Part) (f : Scan → Scan) (h : (f p.scan).urgent = p.scan.urgent) : Move p (p.onScan f)
  | incident (p : Part) (s : Slot) (f : Incident → Incident) (h : IncidentMove (p.incident s) (f (p.incident s))) :
      Move p (p.onIncident s f)
  | standing (p : Part) (v : VolunteerIx) (f : Standing → Standing) : Move p (p.onStanding v f)
  | openSlot (p : Part) (s : Slot) (k : Nat) (hc : p.openCheck = none) (hs : p.isOpen s = false)
      (hk : usedStageFrom (stationDurations p.settings.active.durations p.bus.staging.station.toNat)
        p.bus.staging.startStage.toNat = some k) : Move p (p.openSlot s k)
  | freeIncident (p : Part) (s : Slot) : Move p (p.freeIncident s)
  | clearUnreachable (p : Part) : Move p p.clearUnreachable
  /-- A volunteer counted out of reach; where the age order has each slot once, the count stays within the volunteers. -/
  | unreachable (p : Part) (s : Slot) (h : p.engine.age.Nodup → (p.incident s).unreachable < 240) :
      Move p (p.onIncident s Incident.countUnreachable)
  | stale (p : Part) (n : Nat) (h : p.engine.stale ≤ 65535 → n ≤ 65535) :
      Move p (p.onEngine fun e => { e with stale := n })
  | notify (p : Part) (f : Notify → Notify) : Move p (p.onNotify f)
  | check (p : Part) (f : LinkCheck → LinkCheck) (h : p.check.bounded → (f p.check).bounded) : Move p (p.onCheck f)
  | reset (p : Part) (b : Bool) (x : Straps) : Move p (p.resetBlocks b x)

/-- A run of moves. -/
inductive Moves : Part → Part → Prop
  | refl (p : Part) : Moves p p
  | step {p q r : Part} (h : Moves p q) (m : Move q r) : Moves p r

theorem Moves.trans {p q r : Part} (h : Moves p q) (k : Moves q r) : Moves p r := by
  induction k with
  | refl => exact h
  | step _ m ih => exact ih.step m

theorem Move.moves {p q : Part} (m : Move p q) : Moves p q := (Moves.refl p).step m

/-- What every move keeps, every run of moves keeps. -/
theorem Moves.keeps {I : Part → Prop} (hI : ∀ p q, Move p q → I p → I q) {p q : Part} (h : Moves p q) (hp : I p) :
    I q := by
  induction h with
  | refl => exact hp
  | step _ m ih => exact hI _ _ m ih

theorem Moves.foldl {α : Type} (f : Part → α → Part) (h : ∀ p a, Moves p (f p a)) (l : List α) (p : Part) :
    Moves p (l.foldl f p) := by
  induction l generalizing p with
  | nil => exact Moves.refl p
  | cons a l ih => exact (h p a).trans (ih _)

end Sys2Proof.Machine
end

