-- ==== Sys2Proof/Laws/Runs.lean ====
section
/-! SUPPORT. Every operation of the part is a run of moves, and so is every step. -/

namespace Sys2Proof.Machine

open Moves

theorem countUp_le (limit n : Nat) (h : n ≤ limit) : countUp limit n ≤ limit := by
  unfold countUp; split <;> omega

theorem countUp_le' (limit n : Nat) : countUp limit n ≤ max limit n := by
  unfold countUp; split <;> omega

theorem countUpBy_le (limit n k : Nat) (h : k ≤ limit) : countUpBy limit n k ≤ limit := by
  unfold countUpBy; split <;> omega

/-! ## Reports and counters -/

theorem Part.report_moves (p : Part) (x : Source) : Moves p (p.report x) := (Move.notify p _).moves

theorem Part.onBus_moves (p : Part) (f : Bus → Bus) : Moves p (p.onBus f) := (Move.bus p f).moves

theorem Part.onPins_moves (p : Part) (f : Pins → Pins) : Moves p (p.onPins f) := (Move.pins p f).moves

theorem Part.onNotify_moves (p : Part) (f : Notify → Notify) : Moves p (p.onNotify f) := (Move.notify p f).moves

theorem Part.onScan_moves (p : Part) (f : Scan → Scan) (h : (f p.scan).urgent = p.scan.urgent) :
    Moves p (p.onScan f) := (Move.scan p f h).moves

theorem Part.onCheck_moves (p : Part) (f : LinkCheck → LinkCheck) (h : p.check.bounded → (f p.check).bounded) :
    Moves p (p.onCheck f) := (Move.check p f h).moves

theorem Part.onUnit_moves (p : Part) (u : UnitIx) (f : UnitEntry → UnitEntry) (h : UnitMove p.units[u] (f p.units[u])) :
    Moves p (p.onUnit u f) := (Move.unit p u f h).moves

theorem Part.onStanding_moves (p : Part) (v : VolunteerIx) (f : Standing → Standing) : Moves p (p.onStanding v f) :=
  (Move.standing p v f).moves

theorem Part.onIncident_moves (p : Part) (s : Slot) (f : Incident → Incident)
    (h : IncidentMove (p.incident s) (f (p.incident s))) : Moves p (p.onIncident s f) := (Move.incident p s f h).moves

theorem Part.recordError_moves (p : Part) (k : ErrorKind) (n : Nat) : Moves p (p.recordError k n) :=
  (Move.settings p (fun s => { s with error := { kind := k, offset := n, count := countUp 255 s.error.count } })
    (.error _ _ (countUp_le 255 _))).moves.trans (Part.report_moves _ _)

theorem Part.recordReject_moves (p : Part) (v : VolunteerIx) (w : RejectReason) (x : RejectPhase) :
    Moves p (p.recordReject v w x) :=
  (Move.reject p { volunteer := some v, reason := w, phase := x, count := countUp 255 p.roster.reject.count }
    (countUp_le 255 _)).moves.trans (Part.report_moves _ _)

theorem Part.countStale_moves (p : Part) : Moves p p.countStale :=
  (Move.stale p (countUp 65535 p.engine.stale) (countUp_le 65535 _)).moves.trans (Part.report_moves _ _)

theorem Part.countForced_moves (p : Part) : Moves p p.countForced :=
  (Part.onCheck_moves p _ (by
    rintro ⟨h1, h2, h3, h4, h5, h6, h7⟩
    exact ⟨h1, countUp_le 255 _ h2, h3, h4, h5, h6, h7⟩)).trans (Part.report_moves _ _)

theorem Part.countNotReady_moves (p : Part) : Moves p p.countNotReady :=
  (Part.onCheck_moves p _ (by
    rintro ⟨h1, h2, h3, h4, h5, h6, h7⟩
    exact ⟨h1, h2, countUp_le 255 _ h3, h4, h5, h6, h7⟩)).trans (Part.report_moves _ _)

theorem Part.countCorrupt_moves (p : Part) : Moves p p.countCorrupt :=
  Part.onCheck_moves p _ (by
    rintro ⟨h1, h2, h3, h4, h5, h6, h7⟩
    exact ⟨countUp_le 65535 _ h1, h2, h3, h4, h5, h6, h7⟩)

theorem Part.countSilent_moves (p : Part) : Moves p p.countSilent :=
  (Part.onCheck_moves p _ (by
    rintro ⟨h1, h2, h3, h4, h5, h6, h7⟩
    exact ⟨h1, h2, h3, countUp_le 255 _ h4, h5, h6, h7⟩)).trans (Part.report_moves _ _)

theorem Part.countOverrun_moves (p : Part) : Moves p p.countOverrun :=
  (Part.onCheck_moves p _ (by
    rintro ⟨h1, h2, h3, h4, h5, h6, h7⟩
    exact ⟨h1, h2, h3, h4, countUp_le 255 _ h5, h6, h7⟩)).trans (Part.report_moves _ _)

theorem Part.countMatched_moves (p : Part) : Moves p p.countMatched :=
  Part.onCheck_moves p _ (by
    rintro ⟨h1, h2, h3, h4, h5, h6, h7⟩
    exact ⟨h1, h2, h3, h4, h5, countUp_le 65535 _ h6, h7⟩)

theorem Part.countMismatched_moves (p : Part) (n : Nat) : Moves p (p.countMismatched n) :=
  Part.onCheck_moves p _ (by
    rintro ⟨h1, h2, h3, h4, h5, h6, h7⟩
    exact ⟨h1, h2, h3, h4, h5, h6, countUpBy_le 65535 _ _ h7⟩)

/-- A change of the Link Check Unit that leaves its counters. -/
theorem Part.onCheck_test_moves (p : Part) (f : LinkCheck → LinkCheck)
    (h : ∀ c, (f c).corrupt = c.corrupt ∧ (f c).forced = c.forced ∧ (f c).notReady = c.notReady ∧
      (f c).silent = c.silent ∧ (f c).overruns = c.overruns ∧ (f c).matched = c.matched ∧
      (f c).mismatched = c.mismatched) : Moves p (p.onCheck f) :=
  Part.onCheck_moves p f (by
    obtain ⟨h1, h2, h3, h4, h5, h6, h7⟩ := h p.check
    intro hb
    simpa [LinkCheck.bounded, h1, h2, h3, h4, h5, h6, h7] using hb)

/-! ## The Unit Table -/

theorem Part.endHold_moves (p : Part) : Moves p p.endHold := by
  unfold Part.endHold
  split
  · exact Part.onScan_moves p _ rfl
  · exact refl p

theorem Part.setMessage_moves (p : Part) (u : UnitIx) (s : Seat) (m : Message) : Moves p (p.setMessage u s m) := by
  unfold Part.setMessage
  split
  · next h =>
    refine trans ?_ (Part.endHold_moves _)
    split
    · exact Part.onUnit_moves p u _ (.hold _ s m h)
    · exact Part.onUnit_moves p u _ (.install _ s m h)
  · exact refl p

theorem Part.tell_moves (p : Part) (v : VolunteerIx) (m : Message) : Moves p (p.tell v m) := by
  unfold Part.tell
  split
  · exact Part.setMessage_moves _ _ _ _
  · exact refl p

theorem Part.takeInquiryWord_moves (p : Part) (u : UnitIx) (w : Word) : Moves p (p.takeInquiryWord u w) := by
  unfold Part.takeInquiryWord
  dsimp only
  split
  · exact refl p
  · split
    · exact Part.onUnit_moves p u _ (.inquiry _ _)
    · exact Part.recordError_moves _ _ _

/-! ## The Roster Table -/

theorem Part.actOnPending_moves (p : Part) (v : VolunteerIx) : Moves p (p.actOnPending v) := by
  unfold Part.actOnPending
  split
  · exact refl p
  · next r hr =>
    dsimp only
    split
    · exact (Move.clearPending p v).moves.trans (Part.recordReject_moves _ _ _ _)
    · next h => exact (Move.applyPending p v r hr (by simpa using h)).moves

theorem Part.actOnPendings_moves (p : Part) (l : List VolunteerIx) : Moves p (p.actOnPendings l) :=
  Moves.foldl _ (fun q v => Part.actOnPending_moves q v) l p

/-! ## The Callout Engine -/

theorem Part.offer_moves (p : Part) (v : VolunteerIx) (s : Slot) : Moves p (p.offer v s) :=
  ((Part.onStanding_moves p v _).trans (Part.onIncident_moves _ s _ (.offer _))).trans (Part.tell_moves _ _ _)

theorem Part.offer_age (p : Part) (v : VolunteerIx) (s : Slot) : (p.offer v s).engine.age = p.engine.age := by
  simp [Part.offer, Part.onIncident, Part.onStanding]

/-- An offer counts nobody out of reach. -/
theorem Part.offer_unreachable (p : Part) (v : VolunteerIx) (s t : Slot) :
    ((p.offer v s).incident t).unreachable = (p.incident t).unreachable := by
  simp only [Part.offer, Part.incident, Part.tell_engine, Part.onIncident_engine]
  rw [update_get]
  split
  · next e => subst e; rfl
  · rfl

theorem Part.countOutOfReach_age (p : Part) (l : List Slot) : (p.countOutOfReach l).engine.age = p.engine.age :=
  foldl_keeps (fun q => q.engine.age) (fun q s => q.onIncident s Incident.countUnreachable) (fun _ _ => rfl) l p

theorem Part.countOne_unreachable (p : Part) (s t : Slot) :
    ((p.onIncident s Incident.countUnreachable).incident t).unreachable =
      (p.incident t).unreachable + if s = t then 1 else 0 := by
  simp only [Part.incident, Part.onIncident_engine]
  rw [update_get]
  split
  · next e => subst e; simp [Incident.countUnreachable]
  · next e => simp [Ne.symm e]

/-- Counting out of reach in slots listed once each is a run of moves where no count of theirs is full, and raises each
count by at most one. -/
theorem Part.countOutOfReach_moves (p : Part) (l : List Slot) (hl : p.engine.age.Nodup → l.Nodup)
    (hb : p.engine.age.Nodup → ∀ s, (p.incident s).unreachable < 240) :
    Moves p (p.countOutOfReach l) ∧ (p.engine.age.Nodup → ∀ s, ((p.countOutOfReach l).incident s).unreachable ≤
      (p.incident s).unreachable + if s ∈ l then 1 else 0) := by
  have run : ∀ (l : List Slot) (q : Part), (q.engine.age.Nodup → l.Nodup) →
      (q.engine.age.Nodup → ∀ s ∈ l, (q.incident s).unreachable < 240) →
      Moves q (q.countOutOfReach l) ∧ (q.engine.age.Nodup → ∀ s, ((q.countOutOfReach l).incident s).unreachable ≤
        (q.incident s).unreachable + if s ∈ l then 1 else 0) := by
    intro l
    induction l with
    | nil => exact fun q _ _ => ⟨refl q, fun _ s => by simp [Part.countOutOfReach]⟩
    | cons a l ih =>
      intro q hl hb
      obtain ⟨hm, hc⟩ := ih (q.onIncident a Incident.countUnreachable) (fun hn => (List.nodup_cons.1 (hl hn)).2)
        (fun hn s hs => by
          have ha : a ≠ s := fun e => (List.nodup_cons.1 (hl hn)).1 (e ▸ hs)
          rw [Part.countOne_unreachable, if_neg ha]
          exact hb hn s (List.mem_cons_of_mem _ hs))
      refine ⟨(Move.unreachable q a fun hn => hb hn a (List.mem_cons_self ..)).moves.trans hm, fun hn s => ?_⟩
      have h := hc hn s
      rw [Part.countOne_unreachable] at h
      have hna := (List.nodup_cons.1 (hl hn)).1
      refine h.trans ?_
      by_cases e : a = s
      · subst e
        simp [hna]
      · simp [e, Ne.symm e]
  exact run l p hl fun hn s _ => hb hn s

theorem Part.qualifying_nodup (p : Part) (v : VolunteerIx) (h : p.engine.age.Nodup) : (p.qualifying v).Nodup := by
  simp only [Part.qualifying, List.flatMap_cons, List.flatMap_nil, List.append_nil]
  have apart (i j : Nat) (hij : i ≠ j) (x : Slot) (hi : x ∈ p.engine.age.filter fun s => p.qualifies v s && (p.incident s).priority == i)
      (hj : x ∈ p.engine.age.filter fun s => p.qualifies v s && (p.incident s).priority == j) : False := by
    simp only [List.mem_filter, Bool.and_eq_true, beq_iff_eq] at hi hj
    exact hij (hi.2.2.symm.trans hj.2.2)
  refine List.nodup_append.2 ⟨h.filter _, List.nodup_append.2 ⟨h.filter _, h.filter _, ?_⟩, ?_⟩
  · rintro x hx y hy rfl
    exact apart 2 3 (by decide) x hx hy
  · rintro x hx y hy rfl
    rcases List.mem_append.1 hy with hy | hy
    · exact apart 1 2 (by decide) x hx hy
    · exact apart 1 3 (by decide) x hx hy

/-- Judging one volunteer is a run of moves where no count is full; it raises each count by at most one and leaves the
age order. -/
theorem Part.judgeVolunteer_moves (p : Part) (v : VolunteerIx)
    (hb : p.engine.age.Nodup → ∀ s, (p.incident s).unreachable < 240) :
    Moves p (p.judgeVolunteer v) ∧ (p.judgeVolunteer v).engine.age = p.engine.age ∧
      (p.engine.age.Nodup → ∀ s, ((p.judgeVolunteer v).incident s).unreachable ≤ (p.incident s).unreachable + 1) := by
  have same : Moves p p ∧ p.engine.age = p.engine.age ∧
      (p.engine.age.Nodup → ∀ s, (p.incident s).unreachable ≤ (p.incident s).unreachable + 1) :=
    ⟨refl p, rfl, fun _ _ => Nat.le_succ _⟩
  have offer (s : Slot) : Moves p (p.offer v s) ∧ (p.offer v s).engine.age = p.engine.age ∧
      (p.engine.age.Nodup → ∀ t, ((p.offer v s).incident t).unreachable ≤ (p.incident t).unreachable + 1) :=
    ⟨p.offer_moves v s, p.offer_age v s, fun _ t => by rw [Part.offer_unreachable]; exact Nat.le_succ _⟩
  have count (l : List Slot) (hl : p.engine.age.Nodup → l.Nodup) :
      Moves p (p.countOutOfReach l) ∧ (p.countOutOfReach l).engine.age = p.engine.age ∧
      (p.engine.age.Nodup → ∀ s, ((p.countOutOfReach l).incident s).unreachable ≤ (p.incident s).unreachable + 1) := by
    obtain ⟨hm, hc⟩ := p.countOutOfReach_moves l hl hb
    refine ⟨hm, p.countOutOfReach_age l, fun hn s => (hc hn s).trans ?_⟩
    split <;> omega
  unfold Part.judgeVolunteer
  dsimp only
  repeat' split
  all_goals first
    | exact same
    | exact offer _
    | exact count _ fun hn => p.qualifying_nodup v hn
    | exact count _ fun hn => (p.qualifying_nodup v hn).filter _

/-- A round is a run of moves: it counts each volunteer once at most in each incident. -/
theorem Part.round_moves (p : Part) : Moves p p.round := by
  unfold Part.round
  refine (Move.clearUnreachable p).moves.trans ?_
  have run : ∀ (l : List VolunteerIx) (q : Part),
      (q.engine.age.Nodup → ∀ s, (q.incident s).unreachable + l.length ≤ 240) →
      Moves q (l.foldl Part.judgeVolunteer q) := by
    intro l
    induction l with
    | nil => exact fun q _ => refl q
    | cons v l ih =>
      intro q hb
      obtain ⟨hm, ha, hc⟩ := q.judgeVolunteer_moves v fun hn s => by
        have := hb hn s
        rw [List.length_cons] at this
        omega
      refine hm.trans (ih _ fun hn s => ?_)
      rw [ha] at hn
      have h1 := hb hn s
      have h2 := hc hn s
      rw [List.length_cons] at h1
      omega
  refine run _ _ fun _ s => ?_
  simp [Part.clearUnreachable, Part.incident, Incident.clearUnreachable]

theorem Part.roundIf_moves (p : Part) (b : Bool) : Moves p (p.roundIf b) := by
  unfold Part.roundIf
  split
  · exact Part.round_moves p
  · exact refl p

theorem Part.setFree_moves (p : Part) (v : VolunteerIx) : Moves p (p.setFree v) := Part.onStanding_moves p v _

theorem Part.addDeclined_moves (p : Part) (v : VolunteerIx) (s : Slot) : Moves p (p.addDeclined v s) :=
  Part.onStanding_moves p v _

theorem Part.standDownFree_moves (p : Part) (v : VolunteerIx) : Moves p (p.standDownFree v) :=
  (Part.tell_moves p v _).trans (Part.setFree_moves _ v)

theorem Part.trim_moves (p : Part) (s : Slot) : Moves p (p.trim s) :=
  (Moves.foldl _ Part.standDownFree_moves _ p).trans (Part.actOnPendings_moves _ _)

/-- An admission to a role, its judgement included, as one update of the incident. -/
theorem Part.admitted_role (p : Part) (v : VolunteerIx) (s : Slot) (r : RoleIx) (eta : Nat) :
    p.admitted v s (.role r) eta =
      (let j := (p.incident s).enlist { volunteer := v, assignment := .role r, eta := eta }
       let q := ((p.onIncident s fun i =>
          (i.enlist { volunteer := v, assignment := .role r, eta := eta }).judgeComplete).onStanding v
            fun x => { x with engagement := .attending s }).report .attendTaken
       if j.completes then q.report .crewComplete else q) := by
  have e : (p.onIncident s fun i => i.enlist { volunteer := v, assignment := .role r, eta := eta }).incident s =
      (p.incident s).enlist { volunteer := v, assignment := .role r, eta := eta } := by
    simp [Part.incident]
  simp only [Part.admitted, Part.judgeComplete]
  have e2 : (((p.onIncident s fun i => i.enlist { volunteer := v, assignment := .role r, eta := eta }).onStanding v
      fun x => { x with engagement := .attending s }).report .attendTaken).incident s =
      (p.incident s).enlist { volunteer := v, assignment := .role r, eta := eta } := e
  rw [e2]
  split
  · simp [Part.onIncident, Part.onStanding, Part.onEngine, Part.report, Part.onNotify, update]
  · next h =>
    have h' : ((p.incident s).enlist { volunteer := v, assignment := .role r, eta := eta }).judgeComplete =
        (p.incident s).enlist { volunteer := v, assignment := .role r, eta := eta } := by
      simp [Incident.judgeComplete, h]
    simp only [Part.onIncident, Part.onStanding, Part.onEngine, Part.report, Part.onNotify, update, Part.incident] at h' ⊢
    rw [h']

theorem Part.admitted_moves (p : Part) (v : VolunteerIx) (s : Slot) (a : Assignment) (eta : Nat)
    (ho : (p.incident s).state ≠ .free) (roles : BitVec 6) (h : (p.incident s).assignment roles = some a) :
    Moves p (p.admitted v s a eta) := by
  cases a with
  | extra =>
    exact ((Part.onIncident_moves p s _ (.admitExtra _ v eta roles ho h)).trans (Part.onStanding_moves _ v _)).trans
      (Part.report_moves _ _)
  | role r =>
    rw [Part.admitted_role]
    have hm : Moves p (((p.onIncident s fun i =>
          (i.enlist { volunteer := v, assignment := .role r, eta := eta }).judgeComplete).onStanding v
            fun x => { x with engagement := .attending s }).report .attendTaken) :=
      ((Part.onIncident_moves p s _ (.admitRole _ v r eta roles ho h)).trans (Part.onStanding_moves _ v _)).trans
        (Part.report_moves _ _)
    dsimp only
    split
    · exact hm.trans (Part.report_moves _ _)
    · exact hm

theorem Part.admit_moves (p : Part) (v : VolunteerIx) (s : Slot) (a : Assignment) (eta : Nat)
    (ho : (p.incident s).state ≠ .free) (roles : BitVec 6) (h : (p.incident s).assignment roles = some a) :
    Moves p (p.enlist v s a eta) := by
  have hm := Part.admitted_moves p v s a eta ho roles h
  cases a with
  | extra => exact hm
  | role r => exact hm.trans (Part.trim_moves _ _)

/-- A removal, its judgement included, as one update of the incident. -/
theorem Part.removeAttendee_eq (p : Part) (v : VolunteerIx) (s : Slot) :
    p.removeAttendee v s =
      (let q := (p.onIncident s fun i => (i.remove v).judgeReturn).setFree v
       if ((p.incident s).remove v).reopens then q.report .callingAgain else q) := by
  have e : ((p.onIncident s fun i => i.remove v).setFree v).incident s = (p.incident s).remove v := by
    simp [Part.incident, Part.setFree]
  simp only [Part.removeAttendee, Part.judgeReturn]
  rw [e]
  split
  · simp [Part.onIncident, Part.setFree, Part.onStanding, Part.onEngine, Part.report, Part.onNotify, update]
  · next h =>
    have h' : ((p.incident s).remove v).judgeReturn = (p.incident s).remove v := by
      simp [Incident.judgeReturn, h]
    simp only [Part.onIncident, Part.setFree, Part.onStanding, Part.onEngine, update, Part.incident] at h' ⊢
    rw [h']

theorem Part.removeAttendee_moves (p : Part) (v : VolunteerIx) (s : Slot) : Moves p (p.removeAttendee v s) := by
  rw [Part.removeAttendee_eq]
  have hm : Moves p ((p.onIncident s fun i => (i.remove v).judgeReturn).setFree v) :=
    (Part.onIncident_moves p s _ (.remove _ v)).trans (Part.setFree_moves _ v)
  dsimp only
  split
  · exact hm.trans (Part.report_moves _ _)
  · exact hm

theorem Part.turnBack_moves (p : Part) (v : VolunteerIx) (s : Slot) : Moves p (p.turnBack v s) := by
  have hm : Moves p ((((p.tell v .standDown).addDeclined v s).setFree v).onIncident s Incident.countTurnedBack) :=
    (((Part.tell_moves p v _).trans (Part.addDeclined_moves _ v s)).trans (Part.setFree_moves _ v)).trans
      (Part.onIncident_moves _ s _ (.turnedBack _))
  unfold Part.turnBack
  dsimp only
  split
  · exact hm
  · exact (hm.trans (Part.actOnPending_moves _ v)).trans (Part.round_moves _)

theorem Part.alertAgain_moves (p : Part) (v : VolunteerIx) (s : Slot) : Moves p (p.alertAgain v s) :=
  Part.tell_moves p v _

theorem Part.attendAdmit_moves (p : Part) (v : VolunteerIx) (s : Slot) (eta : Nat)
    (ho : (p.incident s).state ≠ .free) : Moves p (p.attendAdmit v s eta) := by
  unfold Part.attendAdmit
  split
  · exact Part.turnBack_moves p v s
  · next a ha =>
    have hm := Part.admit_moves p v s a eta ho _ ha
    dsimp only
    refine trans ?_ (Part.roundIf_moves _ _)
    split
    · exact hm.trans (Part.alertAgain_moves _ _ _)
    · exact hm

theorem Part.names_open (p : Part) (s : Slot) (g : BitVec 4) (h : p.names s g = true) : (p.incident s).state ≠ .free := by
  simp only [Part.names, Part.isOpen, Bool.and_eq_true, decide_eq_true_eq] at h
  exact h.1

theorem Part.takeAttend_moves (p : Part) (v : VolunteerIx) (eta : Nat) (s : Slot) (g : BitVec 4) :
    Moves p (p.takeAttend v eta s g) := by
  unfold Part.takeAttend
  have hs (t : Slot) : Moves p (p.countStale.alertAgain v t) :=
    (Part.countStale_moves p).trans (Part.alertAgain_moves _ _ _)
  split
  · split
    · next h => exact Part.attendAdmit_moves p v s eta (p.names_open s g h.2)
    · exact hs _
  · split
    · exact refl p
    · exact hs _
  · split
    · next h => exact Part.attendAdmit_moves p v s eta (p.names_open s g h.1)
    · exact (Part.countStale_moves p).trans (Part.tell_moves _ _ _)

theorem Part.declineOffer_moves (p : Part) (v : VolunteerIx) (s : Slot) : Moves p (p.declineOffer v s) :=
  ((((((Part.tell_moves p v _).trans (Part.addDeclined_moves _ v s)).trans (Part.setFree_moves _ v)).trans
    (Part.onIncident_moves _ s _ (.decline _))).trans (Part.report_moves _ _)).trans (Part.actOnPending_moves _ v)).trans
      (Part.round_moves _)

theorem Part.declineAttendance_moves (p : Part) (v : VolunteerIx) (s : Slot) : Moves p (p.declineAttendance v s) :=
  ((((((Part.removeAttendee_moves p v s).trans (Part.tell_moves _ v _)).trans (Part.addDeclined_moves _ v s)).trans
    (Part.onIncident_moves _ s _ (.decline _))).trans (Part.report_moves _ _)).trans (Part.actOnPending_moves _ v)).trans
      (Part.round_moves _)

theorem Part.takeDecline_moves (p : Part) (v : VolunteerIx) (s : Slot) (g : BitVec 4) :
    Moves p (p.takeDecline v s g) := by
  unfold Part.takeDecline
  have hs (t : Slot) : Moves p (p.countStale.alertAgain v t) :=
    (Part.countStale_moves p).trans (Part.alertAgain_moves _ _ _)
  split
  · split
    · exact Part.declineOffer_moves _ _ _
    · exact hs _
  · split
    · exact Part.declineAttendance_moves _ _ _
    · exact hs _
  · exact Part.countStale_moves p

theorem Part.setHome_moves (p : Part) (v : VolunteerIx) (b : Bool) : Moves p (p.setHome v b) := (Move.home p v b).moves

theorem Part.takeEvent_moves (p : Part) (v : VolunteerIx) (e : SeatEvent) : Moves p (p.takeEvent v e) := by
  cases e with
  | none => exact refl p
  | attend eta s g => exact Part.takeAttend_moves p v eta s g
  | decline s g => exact Part.takeDecline_moves p v s g
  | availOff =>
    simp only [Part.takeEvent, Part.takeAvailOff]
    split
    · exact (Part.setHome_moves p v _).trans (Part.declineOffer_moves _ _ _)
    · exact Part.setHome_moves p v _
    · exact Part.setHome_moves p v _
  | availOn => exact (Part.setHome_moves p v _).trans (Part.roundIf_moves _ _)

theorem Part.judgeEvent_moves (p : Part) (u : UnitIx) (s : Seat) (w : Word) : Moves p (p.judgeEvent u s w) := by
  unfold Part.judgeEvent
  dsimp only
  split
  · exact refl p
  · split
    · exact Part.onUnit_moves p u _ (.echo _)
    · split
      · exact (Part.onUnit_moves p u _ (.accept _ s _)).trans (Part.takeEvent_moves _ _ _)
      · exact (Part.onUnit_moves p u _ (.accept _ s _)).trans (Part.countStale_moves _)

theorem Part.expireStage_moves (p : Part) (s : Slot) (h : (p.incident s).state = .calling) :
    Moves p (p.expireStage s) := by
  unfold Part.expireStage
  dsimp only
  have hm := Part.onIncident_moves p s _ (.advance _ h)
  split
  · exact (hm.trans (Part.report_moves _ _)).trans (Part.round_moves _)
  · exact hm.trans (Part.report_moves _ _)

theorem Part.unitDisabled_moves (p : Part) (u : UnitIx) : Moves p (p.unitDisabled u) := by
  unfold Part.unitDisabled
  exact ((Moves.foldl _ Part.setFree_moves _ p).trans (Part.actOnPendings_moves _ _)).trans (Part.roundIf_moves _ _)

theorem Part.takeEnable_moves (p : Part) (u : UnitIx) : Moves p (p.takeEnable u) := by
  unfold Part.takeEnable
  dsimp only
  split
  · exact refl p
  · split
    · exact (Part.onUnit_moves p u _ (.turnOn _)).trans (Part.round_moves _)
    · exact (Part.onUnit_moves p u _ (.turnOff _)).trans (Part.unitDisabled_moves _ u)

theorem Part.takeEnables_moves (p : Part) : Moves p p.takeEnables := by
  unfold Part.takeEnables
  exact Moves.foldl _ Part.takeEnable_moves _ p

theorem Part.commit_moves (p : Part) (v : VolunteerIx) (w : Word) : Moves p (p.commit v w) := by
  unfold Part.commit
  dsimp only
  split
  · exact Part.recordReject_moves _ _ _ _
  · next h =>
    split
    · exact (Move.applyCommitted p v _ h).moves.trans (Part.round_moves _)
    · exact (Move.setPending p v _ h).moves
    · exact (Move.setPending p v _ h).moves

/-! ## Requests -/

theorem Part.freeSlot_free (p : Part) (s : Slot) (h : p.freeSlot = some s) : p.isOpen s = false := by
  have := List.find?_some h
  simpa using this

theorem Part.doOpen_moves (p : Part) : Moves p p.doOpen.part := by
  unfold Part.doOpen
  split
  · exact refl p
  · next hc =>
    dsimp only
    split
    · next s k hs hk =>
      dsimp only
      exact (Move.openSlot p s k hc (p.freeSlot_free s hs) hk).moves.trans (Part.round_moves _)
    · exact refl p

theorem Part.stagedIncident_open (p : Part) (s : Slot) (h : p.stagedIncident = some s) :
    (p.incident s).state ≠ .free := by
  unfold Part.stagedIncident at h
  split at h
  · split at h
    · next hn => cases h; exact p.names_open _ _ hn
    · cases h
  · cases h

/-- An AMEND's change of the incident, its judgements included, as one update. -/
theorem Part.amended_eq (p : Part) (s : Slot) (st : Staging) :
    ∃ q, ((p.onIncident s fun i => i.amended st).judgeComplete s).judgeReturn s = q ∧
      Moves (p.onIncident s fun i => (i.amended st).judgeComplete.judgeReturn) q := by
  refine ⟨_, rfl, ?_⟩
  have e : (p.onIncident s fun i => i.amended st).incident s = (p.incident s).amended st := by simp [Part.incident]
  unfold Part.judgeComplete
  rw [e]
  by_cases hc : ((p.incident s).amended st).completes = true
  · have hn : (((p.incident s).amended st).judgeComplete).reopens = false := by
      simp only [Incident.completes, Bool.and_eq_true] at hc
      simp only [Incident.judgeComplete, Incident.completes, hc.1, hc.2, Bool.and_self, if_true, Incident.reopens]
      have : Incident.crewed { (p.incident s).amended st with state := .complete, timer := none } = true := hc.2
      simp [this]
    have e2 : (((p.onIncident s fun i => i.amended st).onIncident s Incident.judgeComplete).report
        .crewComplete).incident s = ((p.incident s).amended st).judgeComplete := by
      simp [Part.incident]
    rw [if_pos hc]
    unfold Part.judgeReturn
    rw [e2, hn]
    have hj : ((p.incident s).amended st).judgeComplete.judgeReturn = ((p.incident s).amended st).judgeComplete := by
      simp [Incident.judgeReturn, hn]
    have : ((p.onIncident s fun i => i.amended st).onIncident s Incident.judgeComplete) =
        (p.onIncident s fun i => (i.amended st).judgeComplete.judgeReturn) := by
      simp only [Part.onIncident, Part.onEngine, update, Part.incident] at hj ⊢
      rw [hj]
      simp
    rw [if_neg (by simp), this]
    exact Part.report_moves _ _
  · have hj : ((p.incident s).amended st).judgeComplete = (p.incident s).amended st := by
      simp [Incident.judgeComplete, hc]
    rw [if_neg hc]
    unfold Part.judgeReturn
    rw [e]
    by_cases hr : ((p.incident s).amended st).reopens = true
    · rw [if_pos hr]
      have : ((p.onIncident s fun i => i.amended st).onIncident s Incident.judgeReturn) =
          (p.onIncident s fun i => (i.amended st).judgeComplete.judgeReturn) := by
        simp only [Part.onIncident, Part.onEngine, update, Part.incident] at hj ⊢
        rw [hj]
        simp
      rw [this]
      exact Part.report_moves _ _
    · rw [if_neg hr]
      have hj2 : ((p.incident s).amended st).judgeReturn = (p.incident s).amended st := by
        simp [Incident.judgeReturn, hr]
      have : (p.onIncident s fun i => i.amended st) =
          (p.onIncident s fun i => (i.amended st).judgeComplete.judgeReturn) := by
        simp only [Part.onIncident, Part.onEngine, update, Part.incident] at hj hj2 ⊢
        rw [hj, hj2]
      rw [this]
      exact refl _

theorem Part.doAmend_moves (p : Part) : Moves p p.doAmend.part := by
  unfold Part.doAmend
  split
  · exact refl p
  · next s hs =>
    split
    · exact refl p
    · next hi =>
      obtain ⟨q, hq, hm⟩ := p.amended_eq s p.bus.staging
      have ho := p.stagedIncident_open s hs
      simp only [Part.amendInvalid, Bool.or_eq_true, decide_eq_true_eq, not_or, Nat.not_lt] at hi
      have h1 : Moves p (p.onIncident s fun i => (i.amended p.bus.staging).judgeComplete.judgeReturn) :=
        Part.onIncident_moves p s _ (.amend _ _ ho hi.1.1.1 hi.1.1.2 hi.1.2 hi.2)
      simp only [Part.done, hq]
      exact ((h1.trans hm).trans (Part.trim_moves _ s)).trans (Part.round_moves _)

theorem Part.standDownSlot_moves (p : Part) (s : Slot) : Moves p (p.standDownSlot s) := by
  unfold Part.standDownSlot
  exact Moves.foldl _ Part.standDownFree_moves _ p

theorem Part.doClose_moves (p : Part) : Moves p p.doClose.part := by
  unfold Part.doClose
  split
  · exact refl p
  · next s hs =>
    dsimp only [Part.done]
    exact (((Part.standDownSlot_moves p s).trans (Move.freeIncident _ s).moves).trans
      (Part.actOnPendings_moves _ _)).trans (Part.roundIf_moves _ _)

theorem Part.doAdvance_moves (p : Part) : Moves p p.doAdvance.part := by
  unfold Part.doAdvance
  split
  · exact refl p
  · split
    · next s hs h => exact Part.expireStage_moves p s h
    · exact refl p

theorem Part.manualAdmit_moves (p : Part) (v : VolunteerIx) (s : Slot) (eta : Nat)
    (ho : (p.incident s).state ≠ .free) : Moves p (p.manualAdmit v s eta).part := by
  unfold Part.manualAdmit
  split
  · exact refl p
  · next a ha =>
    exact ((Part.admit_moves p v s a eta ho _ ha).trans (Part.alertAgain_moves _ _ _)).trans (Part.roundIf_moves _ _)

theorem Part.doManualAttend_moves (p : Part) : Moves p p.doManualAttend.part := by
  unfold Part.doManualAttend
  split
  · exact refl p
  · next s hs =>
    have ho := p.stagedIncident_open s hs
    split
    · exact refl p
    · dsimp only
      repeat' split
      all_goals first
        | exact refl p
        | exact Part.manualAdmit_moves p _ s _ ho

theorem Part.doRelease_moves (p : Part) : Moves p p.doRelease.part := by
  unfold Part.doRelease
  split
  · exact refl p
  · next v hv =>
    split
    · exact refl p
    · next s hs =>
      dsimp only [Part.done]
      exact ((((Part.tell_moves p v _).trans (Part.addDeclined_moves _ v s)).trans (Part.setFree_moves _ v)).trans
        (Part.actOnPending_moves _ v)).trans (Part.round_moves _)
    · next s hs =>
      dsimp only [Part.done]
      exact ((((Part.removeAttendee_moves p v s).trans (Part.tell_moves _ v _)).trans
        (Part.addDeclined_moves _ v s)).trans (Part.actOnPending_moves _ v)).trans (Part.round_moves _)

theorem Part.doEngineClear_moves (p : Part) : Moves p p.doEngineClear.part := by
  unfold Part.doEngineClear
  dsimp only [Part.done]
  exact (((Moves.foldl _ Part.standDownSlot_moves _ p).trans
    (Moves.foldl _ (fun q s => (Move.freeIncident q s).moves) _ _)).trans (Part.actOnPendings_moves _ _)).trans
      (Part.roundIf_moves _ _)

theorem Part.request_moves (p : Part) (code : Word) : Moves p (p.request code).part := by
  unfold Part.request
  repeat' split
  · exact Part.doOpen_moves p
  · exact Part.doAmend_moves p
  · exact Part.doClose_moves p
  · exact Part.doAdvance_moves p
  · exact Part.doManualAttend_moves p
  · exact Part.doRelease_moves p
  · exact Part.doEngineClear_moves p
  · exact refl p

/-! ## The Link Check Unit -/

theorem Part.keyBurst_moves (p : Part) : Moves p p.keyBurst := by
  unfold Part.keyBurst
  split
  · exact Part.onCheck_test_moves p _ fun _ => ⟨rfl, rfl, rfl, rfl, rfl, rfl, rfl⟩
  · dsimp only
    exact Part.onCheck_test_moves p _ fun _ => ⟨rfl, rfl, rfl, rfl, rfl, rfl, rfl⟩
  · exact refl p

theorem Part.beginBurst_moves (p : Part) : Moves p p.beginBurst := by
  unfold Part.beginBurst
  dsimp only
  split
  · have h1 : Moves p (p.onCheck fun c => { c with episode := false }) :=
      Part.onCheck_test_moves p _ fun _ => ⟨rfl, rfl, rfl, rfl, rfl, rfl, rfl⟩
    split
    · exact h1.trans (Part.onCheck_test_moves _ _ fun _ => ⟨rfl, rfl, rfl, rfl, rfl, rfl, rfl⟩)
    · exact h1.trans (Part.keyBurst_moves _)
  · have h1 : Moves p (p.onCheck fun c => { c with test := .retryWait, episode := true }) :=
      Part.onCheck_test_moves p _ fun _ => ⟨rfl, rfl, rfl, rfl, rfl, rfl, rfl⟩
    split
    · exact h1
    · exact h1.trans (Part.countNotReady_moves _)

/-- The staged link settings and test enables become active, scan run taking a value. -/
theorem Part.takeAll_moves (p : Part) (b : Bool) : Moves p (p.onSettings fun s =>
    { s with active := { s.active with scanRun := b, link := s.staged.link, tests := s.staged.tests } }) := by
  have h1 (q : Part) : Moves q (q.onSettings fun s => { s with active := { s.active with link := s.staged.link } }) :=
    (Move.settings q _ (.link q.settings)).moves
  have h2 (q : Part) : Moves q (q.onSettings fun s => { s with active := { s.active with scanRun := b } }) :=
    (Move.settings q _ (.run q.settings q.settings.staged.scanRun b)).moves
  have h3 (q : Part) : Moves q (q.onSettings fun s => { s with active := { s.active with tests := s.staged.tests } }) :=
    (Move.settings q _ (.tests q.settings q.settings.staged.tests q.settings.staged.tests)).moves
  exact ((h1 p).trans (h2 _)).trans (h3 _)

theorem Part.beginTest_moves (p : Part) (k : TestKind) : Moves p (p.beginTest k) := by
  unfold Part.beginTest
  refine trans ?_ (Part.beginBurst_moves _)
  exact Part.onCheck_test_moves p _ fun _ => ⟨rfl, rfl, rfl, rfl, rfl, rfl, rfl⟩

theorem Part.endTest_moves (p : Part) : Moves p p.endTest :=
  Part.onCheck_test_moves p _ fun _ => ⟨rfl, rfl, rfl, rfl, rfl, rfl, rfl⟩

theorem Part.judgeTests_moves (p : Part) : Moves p p.judgeTests := by
  unfold Part.judgeTests
  repeat' split
  all_goals first
    | exact refl p
    | exact Part.endTest_moves p
    | exact Part.beginTest_moves p _

theorem Part.endListen_moves (p : Part) : Moves p p.endListen := by
  have h1 : Moves p (p.onSettings fun s =>
      { s with active := { s.active with link := s.staged.link, tests := s.staged.tests } }) :=
    Part.takeAll_moves p p.settings.active.scanRun
  unfold Part.endListen
  dsimp only
  repeat' split
  · exact h1.trans (Part.endTest_moves _)
  · exact h1.trans (Part.beginBurst_moves _)
  · exact h1.trans (Part.beginTest_moves _ _)

theorem Part.burstSent_moves (p : Part) : Moves p p.burstSent := by
  unfold Part.burstSent
  split
  · exact Part.onCheck_test_moves p _ fun _ => ⟨rfl, rfl, rfl, rfl, rfl, rfl, rfl⟩
  · exact refl p

theorem Part.armListen_moves (p : Part) : Moves p p.armListen := by
  unfold Part.armListen
  split
  · exact Part.onCheck_test_moves p _ fun _ => ⟨rfl, rfl, rfl, rfl, rfl, rfl, rfl⟩
  · exact refl p

theorem Part.leadInHeard_moves (p : Part) : Moves p p.leadInHeard := by
  unfold Part.leadInHeard
  repeat' split
  all_goals first
    | exact refl p
    | exact Part.onCheck_test_moves p _ fun _ => ⟨rfl, rfl, rfl, rfl, rfl, rfl, rfl⟩

theorem Part.judgePlace_moves (p : Part) (x : Place) (w : Word) : Moves p (p.judgePlace x w) := by
  unfold Part.judgePlace
  repeat' split
  · exact refl p
  · exact Part.countMatched_moves p
  · exact Part.countMismatched_moves p 1

theorem Part.patternWord_moves (p : Part) (w : Word) : Moves p (p.patternWord w) := by
  unfold Part.patternWord
  split
  · next t x rest h =>
    dsimp only
    have h1 : Moves p ((p.judgePlace x w).onCheck fun c => { c with test := .listening t (.pattern rest) }) :=
      (Part.judgePlace_moves p x w).trans
        (Part.onCheck_test_moves _ _ fun _ => ⟨rfl, rfl, rfl, rfl, rfl, rfl, rfl⟩)
    split
    · exact h1.trans (Part.endListen_moves _)
    · exact h1
  · exact refl p

theorem Part.prbsGroup_moves (p : Part) (w : Word) : Moves p (p.prbsGroup w) := by
  unfold Part.prbsGroup
  split
  · next t n h =>
    dsimp only
    have h0 : Moves p (if (checkerGroup n w p.check.checker).1 = true then p.countMatched else p.countMismatched 1) := by
      split
      · exact Part.countMatched_moves p
      · exact Part.countMismatched_moves p 1
    have h1 := h0.trans (Part.onCheck_test_moves _
      (fun c => { c with test := .listening t (.prbs (n + 1)), checker := (checkerGroup n w p.check.checker).2 })
      fun _ => ⟨rfl, rfl, rfl, rfl, rfl, rfl, rfl⟩)
    split
    · exact h1
    · exact h1.trans (Part.endListen_moves _)
  · exact refl p

theorem Part.closeListen_moves (p : Part) : Moves p p.closeListen := by
  unfold Part.closeListen
  split
  · exact (Part.countMismatched_moves p _).trans (Part.endListen_moves _)
  · exact refl p

theorem Part.cutTest_moves (p : Part) : Moves p p.cutTest :=
  (Move.settings p _ (.tests _ p.settings.staged.tests _)).moves.trans (Part.endTest_moves _)

/-! ## The Scan Controller -/

theorem Part.sendHead_moves (p : Part) (n : Option (UnitIx × SlotKind)) : Moves p (p.sendHead n) := by
  unfold Part.sendHead
  exact Part.onScan_moves p _ rfl

theorem Part.beginSlot_moves (p : Part) (u : UnitIx) (k : SlotKind) : Moves p (p.beginSlot u k) :=
  (Part.onScan_moves p _ rfl).trans (Part.onUnit_moves _ u _ (.packet _))

theorem Part.giveSlot_moves (p : Part) (u : UnitIx) (k : SlotKind) : Moves p (p.giveSlot u k) := by
  unfold Part.giveSlot
  split
  · exact Part.sendHead_moves p _
  · exact Part.beginSlot_moves p u k

theorem Part.takeLink_moves (p : Part) : Moves p p.takeLink := (Move.settings p _ (.link _)).moves

theorem Part.startCycle_moves (p : Part) : Moves p p.startCycle :=
  (Part.onScan_moves p _ rfl).trans (Part.sendHead_moves _ _)

theorem Part.retryLater_moves (p : Part) (c : RetryCause) : Moves p (p.retryLater c) := Part.onScan_moves p _ rfl

theorem Part.listenFirst_moves (p : Part) : Moves p p.listenFirst := by
  unfold Part.listenFirst
  split
  · exact Part.onScan_moves p _ rfl
  · exact Part.startCycle_moves p

theorem Part.readyCheck_moves (p : Part) : Moves p p.readyCheck := by
  unfold Part.readyCheck
  split
  · exact (Part.onScan_moves p _ rfl).trans (Part.listenFirst_moves _)
  · have h1 : Moves p ((p.onScan fun s => { s with episode := true }).retryLater .notReady) :=
      (Part.onScan_moves p _ rfl).trans (Part.retryLater_moves _ _)
    dsimp only
    split
    · exact h1
    · exact h1.trans (Part.countNotReady_moves _)

theorem Part.attempt_moves (p : Part) : Moves p p.attempt := by
  unfold Part.attempt
  have h1 : Moves p p.takeLink.takeEnables := (Part.takeLink_moves p).trans (Part.takeEnables_moves _)
  dsimp only
  split
  · exact h1.trans (Part.readyCheck_moves _)
  · exact h1.trans (Part.retryLater_moves _ _)

theorem Part.settle_moves (p : Part) : Moves p p.settle := by
  unfold Part.settle
  split
  · exact Part.attempt_moves p
  · exact refl p

theorem Part.stopLink_moves (p : Part) : Moves p p.stopLink := by
  have h1 : Moves p (p.onSettings fun s =>
      { s with active := { s.active with scanRun := false, link := s.staged.link, tests := s.staged.tests } }) :=
    Part.takeAll_moves p false
  unfold Part.stopLink
  exact ((h1.trans (Part.onScan_moves _ _ rfl)).trans (Part.takeEnables_moves _)).trans (Part.judgeTests_moves _)

theorem Part.refuseStop_moves (p : Part) : Moves p p.refuseStop :=
  (Part.recordError_moves p _ _).trans (Move.settings _ _ (.run _ true p.settings.active.scanRun)).moves

theorem Part.holdOrStart_moves (p : Part) (b : Bool) : Moves p (p.holdOrStart b) := by
  unfold Part.holdOrStart
  split
  · exact Part.onScan_moves p _ rfl
  · exact Part.attempt_moves p

theorem Part.markChange_moves (p : Part) : Moves p p.markChange := by
  unfold Part.markChange
  dsimp only
  split
  · exact (Part.onScan_moves p _ rfl).trans (Part.report_moves _ _)
  · exact Part.onScan_moves p _ rfl

theorem Part.endCycle_moves (p : Part) : Moves p p.endCycle := by
  unfold Part.endCycle
  have h1 : Moves p (p.markChange.report .cycleEnd) := (Part.markChange_moves p).trans (Part.report_moves _ _)
  dsimp only
  repeat' split
  · exact (h1.trans (Part.refuseStop_moves _)).trans (Part.holdOrStart_moves _ _)
  · exact h1.trans (Part.stopLink_moves _)
  · exact h1.trans (Part.holdOrStart_moves _ _)

theorem Part.boundary_moves (p : Part) : Moves p p.boundary := by
  unfold Part.boundary
  repeat' split
  · exact (Part.onScan_moves p _ rfl).trans (Part.giveSlot_moves _ _ _)
  · exact (Part.onScan_moves p _ rfl).trans (Part.giveSlot_moves _ _ _)
  · exact Part.endCycle_moves p

theorem Part.headSent_moves (p : Part) : Moves p p.headSent := by
  unfold Part.headSent
  dsimp only
  repeat' split
  · exact (Part.onScan_moves p _ rfl).trans (Part.beginSlot_moves _ _ _)
  · exact (Part.onScan_moves p _ rfl).trans (Part.boundary_moves _)
  · exact refl p

theorem Part.packetSent_moves (p : Part) : Moves p p.packetSent := by
  unfold Part.packetSent
  split
  · exact Part.onScan_moves p _ rfl
  · exact refl p

theorem Part.armReply_moves (p : Part) : Moves p p.armReply := by
  unfold Part.armReply
  split
  · exact Part.onScan_moves p _ rfl
  · exact refl p

theorem Part.replyStarts_moves (p : Part) : Moves p p.replyStarts := by
  unfold Part.replyStarts
  split
  · exact Part.onScan_moves p _ rfl
  · exact refl p

theorem Part.goodReply_moves (p : Part) (u : UnitIx) (r : Reply) : Moves p (p.goodReply u r) := by
  have hif (b : Bool) (q : Part) (x : Source) : Moves q (if b = true then q.report x else q) := by
    split
    · exact Part.report_moves q x
    · exact refl q
  have hch (b : Bool) (q : Part) :
      Moves q (if b = true then (q.onScan fun s => { s with changeSeen := true }).report .changeNow else q) := by
    split
    · exact (Part.onScan_moves q _ rfl).trans (Part.report_moves _ _)
    · exact refl q
  unfold Part.goodReply
  dsimp only
  refine trans ?_ (Part.onUnit_moves _ u _ (.installWaiting _))
  refine trans ?_ (Part.onUnit_moves _ u _ (.answered _ _ _))
  refine trans ?_ (Part.onUnit_moves _ u _ (.installHeld _ .b))
  refine trans ?_ (Part.onUnit_moves _ u _ (.installHeld _ .a))
  refine trans ?_ (Part.onUnit_moves _ u _ (.confirm _ .b _))
  refine trans ?_ (Part.onUnit_moves _ u _ (.confirm _ .a _))
  refine trans ?_ (hch _ _)
  refine trans ?_ (Part.onUnit_moves _ u _ (.flags _ _))
  have := hif (decide (p.units[u].link = .silent)) (p.onUnit u UnitEntry.heardFrom) .unitReturn
  simp only [decide_eq_true_eq] at this ⊢
  exact (Part.onUnit_moves p u _ (.heard _)).trans this

theorem Part.replyEvents_moves (p : Part) (u : UnitIx) (r : Reply) (b : Bool) : Moves p (p.replyEvents u r b) :=
  ((Part.judgeEvent_moves p u .a _).trans (Part.judgeEvent_moves _ u .b _)).trans (Part.roundIf_moves _ _)

theorem Part.slotGood_moves (p : Part) (u : UnitIx) (r : Reply) : Moves p (p.slotGood u r) :=
  (((Part.onScan_moves p _ rfl).trans (Part.goodReply_moves _ u r)).trans (Part.replyEvents_moves _ u r _)).trans
    (Part.boundary_moves _)

theorem Part.miss_moves (p : Part) (u : UnitIx) : Moves p (p.miss u) := by
  have hif (b : Bool) (q : Part) : Moves q (if b = true then q.countSilent else q) := by
    split
    · exact Part.countSilent_moves q
    · exact refl q
  unfold Part.miss
  dsimp only
  refine trans ?_ (Part.onUnit_moves _ u _ (.installWaiting _))
  refine trans ?_ (Part.onUnit_moves _ u _ (.unanswered _))
  refine trans ?_ (Part.onUnit_moves _ u _ (.installHeld _ .b))
  refine trans ?_ (Part.onUnit_moves _ u _ (.installHeld _ .a))
  refine trans ?_ (Part.onUnit_moves _ u _ (.unchanged _))
  exact (Part.onUnit_moves p u _ (.missed _ _)).trans (hif _ _)

theorem Part.slotMissed_moves (p : Part) (u : UnitIx) : Moves p (p.slotMissed u) :=
  ((Part.onScan_moves p _ rfl).trans (Part.miss_moves _ u)).trans (Part.boundary_moves _)

theorem Part.replyIn_moves (p : Part) (r : Reply) : Moves p (p.replyIn r) := by
  unfold Part.replyIn
  repeat' split
  · exact Part.onScan_moves p _ rfl
  · exact Part.slotGood_moves p _ r
  · exact Part.onScan_moves p _ rfl
  · exact refl p

theorem Part.windowCloses_moves (p : Part) : Moves p p.windowCloses := by
  unfold Part.windowCloses
  repeat' split
  · exact Part.slotMissed_moves p _
  · exact Part.slotMissed_moves p _
  · exact (Part.countCorrupt_moves p).trans (Part.slotMissed_moves _ _)
  · exact (Part.countCorrupt_moves p).trans (Part.slotMissed_moves _ _)
  · exact refl p

theorem Part.retryExpires_moves (p : Part) : Moves p p.retryExpires := by
  unfold Part.retryExpires
  split
  · exact Part.attempt_moves p
  · exact refl p

theorem Part.carrierFalls_moves (p : Part) : Moves p p.carrierFalls := by
  unfold Part.carrierFalls
  split
  · exact (Part.onPins_moves p _).trans (Part.startCycle_moves _)
  · exact refl p

theorem Part.lbtExpires_moves (p : Part) : Moves p p.lbtExpires := by
  unfold Part.lbtExpires
  split
  · exact (Part.countForced_moves p).trans (Part.startCycle_moves _)
  · exact refl p

theorem Part.guardExpires_moves (p : Part) : Moves p p.guardExpires := by
  unfold Part.guardExpires
  split
  · exact ((Part.countOverrun_moves p).trans (Part.onScan_moves _ _ rfl)).trans (Part.attempt_moves _)
  · exact refl p

theorem Part.testCarrierFalls_moves (p : Part) : Moves p p.testCarrierFalls := by
  unfold Part.testCarrierFalls
  split
  · exact (Part.onPins_moves p _).trans (Part.keyBurst_moves _)
  · exact refl p

theorem Part.testLbtExpires_moves (p : Part) : Moves p p.testLbtExpires := by
  unfold Part.testLbtExpires
  split
  · exact (Part.countForced_moves p).trans (Part.keyBurst_moves _)
  · exact refl p

theorem Part.testRetryExpires_moves (p : Part) : Moves p p.testRetryExpires := by
  unfold Part.testRetryExpires
  split
  · exact Part.beginBurst_moves p
  · exact refl p

theorem Part.stageExpires_moves (p : Part) (s : Slot) : Moves p (p.stageExpires s) := by
  unfold Part.stageExpires
  split
  · next h =>
    simp only [Incident.timerDue, Bool.and_eq_true, decide_eq_true_eq] at h
    exact (Part.expireStage_moves p s h.1).trans (Part.settle_moves _)
  · exact refl p

/-! ## The Settings Store -/

theorem Part.takeSetting_moves (p : Part) (x : Setting) (w : Word) (h : x.admits w = true) :
    Moves p (p.takeSetting x w) := by
  have hm (b : Bool) : Moves p (p.onSettings fun s =>
      { s with staged := s.staged.put x w, active := if b = true then s.active.put x w else s.active }) :=
    (Move.settings p _ (.put p.settings x w h b)).moves
  unfold Part.takeSetting
  cases x.cycleBound && !p.takesAtOnce
  · exact hm true
  · exact hm false

theorem Part.judgeSetting_moves (p : Part) (n : Nat) (w : Word) : Moves p (p.judgeSetting n w) := by
  unfold Part.judgeSetting
  repeat' split
  · exact refl p
  · next h => exact Part.takeSetting_moves p _ w h
  · exact Part.recordError_moves p _ _

theorem Part.stageScanRun_moves (p : Part) (b : Bool) : Moves p (p.stageScanRun b) :=
  (Move.settings p _ (.run _ b p.settings.active.scanRun)).moves

theorem Part.scanRunOn_moves (p : Part) : Moves p p.scanRunOn := by
  unfold Part.scanRunOn
  have h1 := Part.stageScanRun_moves p true
  dsimp only
  split
  · unfold Part.startLink
    exact ((h1.trans (Move.settings _ _ (.run _ true true)).moves).trans (Part.cutTest_moves _)).trans
      (Part.attempt_moves _)
  · exact h1

theorem Part.scanRunOff_moves (p : Part) : Moves p p.scanRunOff := by
  unfold Part.scanRunOff
  have h1 := Part.stageScanRun_moves p false
  dsimp only
  split
  · exact Part.refuseStop_moves p
  · split
    · exact h1
    · exact h1
    · exact h1
    · exact h1.trans (Part.stopLink_moves _)
    · exact h1.trans (Part.stopLink_moves _)

theorem Part.stageTests_moves (p : Part) (t : TestEnables) : Moves p (p.stageTests t) :=
  (Move.settings p _ (.tests _ t p.settings.active.tests)).moves

theorem Part.takeTests_moves (p : Part) : Moves p p.takeTests := by
  unfold Part.takeTests
  split
  · exact (Move.settings p _ (.tests _ p.settings.staged.tests p.settings.staged.tests)).moves.trans
      (Part.judgeTests_moves _)
  · exact refl p

theorem Part.testEnables_moves (p : Part) (t : TestEnables) : Moves p (p.testEnables t) := by
  unfold Part.testEnables
  repeat' split
  · exact ((Part.stageTests_moves p _).trans (Part.recordError_moves _ _ _)).trans (Part.takeTests_moves _)
  · exact (Part.stageTests_moves p _).trans (Part.recordError_moves _ _ _)
  · exact (Part.stageTests_moves p _).trans (Part.takeTests_moves _)

theorem Part.takeSetupWord_moves (p : Part) (n : Nat) (w : Word) : Moves p (p.takeSetupWord n w) := by
  unfold Part.takeSetupWord
  repeat' split
  · exact Part.scanRunOn_moves p
  · exact Part.scanRunOff_moves p
  · exact Part.testEnables_moves p _
  · exact Part.judgeSetting_moves p n w

theorem Part.takeUnitWord0_moves (p : Part) (u : UnitIx) (w : Word) : Moves p (p.takeUnitWord0 u w) := by
  unfold Part.takeUnitWord0
  have h1 : Moves p (p.onUnit u fun e => { e with watch := watchOf w, stagedEnable := enableOf w }) :=
    Part.onUnit_moves p u _ (.word0 _ _ _)
  dsimp only
  split
  · exact h1.trans (Part.takeEnable_moves _ u)
  · exact h1

/-! ## The Bus Interposer -/

theorem Part.handOver_moves (p : Part) (n : Nat) (w : Word) : Moves p (p.handOver n w) := by
  unfold Part.handOver
  repeat' split
  · exact Part.takeSetupWord_moves p n w
  · unfold Part.takeRosterWord
    split
    · exact (Part.commit_moves p _ w).trans (Part.settle_moves _)
    · exact (Move.stageWord p _ _ w).moves
  · unfold Part.takeUnitWord
    split
    · exact Part.takeUnitWord0_moves p _ w
    · exact Part.takeInquiryWord_moves p _ w
  · exact refl p

theorem Part.takeRequest_moves (p : Part) (code : Word) : Moves p (p.takeRequest code) := by
  unfold Part.takeRequest
  dsimp only
  have h1 := (Part.onBus_moves p fun b => { b with staging := { b.staging with action := code } }).trans
    (Part.request_moves _ code)
  refine trans ?_ (Part.settle_moves _)
  refine trans ?_ (Part.report_moves _ _)
  refine trans ?_ (Part.onBus_moves _ _)
  split
  · exact h1.trans (Part.endHold_moves _)
  · exact h1

theorem Part.clearCounter_moves (p : Part) (j : Nat) : Moves p (p.clearCounter j) := by
  unfold Part.clearCounter
  split
  · exact Part.onBus_moves p _
  · exact (Move.stale p 0 (by omega)).moves
  all_goals first
    | exact refl p
    | (refine Part.onCheck_moves p _ ?_
       rintro ⟨h1, h2, h3, h4, h5, h6, h7⟩
       refine ⟨?_, ?_, ?_, ?_, ?_, ?_, ?_⟩ <;> first | assumption | exact Nat.zero_le _)

theorem Part.clearNotes_moves (p : Part) (l : NoteLine) (w : Word) : Moves p (p.clearNotes l w) := by
  unfold Part.clearNotes
  dsimp only
  refine trans ?_ (Part.settle_moves _)
  split
  · exact (Part.onNotify_moves p _).trans (Part.endHold_moves _)
  · exact Part.onNotify_moves p _

theorem Part.takeBoardWord_moves (p : Part) (k : Nat) (w : Word) : Moves p (p.takeBoardWord k w) := by
  unfold Part.takeBoardWord
  repeat' split
  · exact Part.onBus_moves p _
  · exact Part.takeRequest_moves p w
  · exact (Move.settings p _ (.error _ ErrorRecord.clear (by simp [ErrorRecord.clear]))).moves
  · exact (Move.reject p RejectRecord.clear (by simp [RejectRecord.clear])).moves
  · exact Part.clearCounter_moves p _
  · exact Part.clearNotes_moves p _ w
  · exact Part.onNotify_moves p _
  · exact Part.clearNotes_moves p _ w
  · exact Part.onNotify_moves p _
  · exact refl p

theorem Part.viewMemory_moves (p : Part) (a : Nat) (b : Bool) (w : Word) : Moves p (p.viewMemory a b w) := by
  unfold Part.viewMemory
  exact Part.onBus_moves p _

theorem Part.viewBoard_moves (p : Part) (b : Bool) (w : Word) : Moves p (p.viewBoard b w) := by
  unfold Part.viewBoard
  exact Part.onBus_moves p _

theorem Part.capture_moves (p : Part) (b : BlockName) : Moves p (p.capture b) := by
  unfold Part.capture
  exact Part.onBus_moves p _

theorem Part.release_moves (p : Part) : Moves p p.release := by
  unfold Part.release
  exact Part.onBus_moves p _

theorem Part.setPair_moves (p : Part) (x : Option (Nat × Byte)) : Moves p (p.setPair x) := by
  unfold Part.setPair
  exact Part.onBus_moves p _

theorem Part.setReadHigh_moves (p : Part) (x : Option (Nat × Byte)) : Moves p (p.setReadHigh x) := by
  unfold Part.setReadHigh
  exact Part.onBus_moves p _

theorem Part.ramByteWrite_moves (p : Part) (a : Nat) (x : Byte) : Moves p (p.ramByteWrite a x) := by
  unfold Part.ramByteWrite Part.viewMemory
  exact (Move.mem p a x).moves.trans (Part.onBus_moves _ _)

theorem Part.ramWordWrite_moves (p : Part) (a : Nat) (w : Word) : Moves p (p.ramWordWrite a w) := by
  unfold Part.ramWordWrite Part.viewMemory
  exact ((Move.mem p (2 * a) (lowByte w)).moves.trans (Move.mem _ (2 * a + 1) (highByte w)).moves).trans
    (Part.onBus_moves _ _)

theorem Part.plainCycle_moves (p : Part) (c : BusCycle) : Moves p (p.plainCycle c) := by
  unfold Part.plainCycle
  dsimp only
  repeat' split
  · exact Part.ramByteWrite_moves p _ _
  · exact Part.viewMemory_moves p _ _ _
  · exact Part.ramWordWrite_moves p _ _
  · exact Part.viewMemory_moves p _ _ _

theorem Part.beginBoardWrite_moves (p : Part) : Moves p p.beginBoardWrite := by
  unfold Part.beginBoardWrite
  exact (Part.onBus_moves p _).trans (Part.viewBoard_moves _ _ _)

theorem Part.byteToMemory_moves (p : Part) (n : Nat) (b : Bool) (x : Byte) : Moves p (p.byteToMemory n b x) := by
  unfold Part.byteToMemory
  split
  · exact Part.beginBoardWrite_moves p
  · exact Part.ramByteWrite_moves p _ _

theorem Part.takeWord_moves (p : Part) (n : Nat) (w : Word) : Moves p (p.takeWord n w) := by
  unfold Part.takeWord
  split
  · exact Part.takeBoardWord_moves p _ w
  · exact Part.handOver_moves p n w

theorem Part.writeByteAt_moves (p : Part) (n : Nat) (b : Bool) (x : Byte) : Moves p (p.writeByteAt n b x) := by
  unfold Part.writeByteAt
  repeat' split
  · unfold Part.highByteIn
    have h1 := Part.byteToMemory_moves p n true x
    dsimp only
    split
    · exact h1
    · unfold Part.completePair
      repeat' split
      · exact (h1.trans (Part.setPair_moves _ _)).trans (Part.takeWord_moves _ _ _)
      · exact h1.trans (Part.recordError_moves _ _ _)
      · exact h1.trans (Part.recordError_moves _ _ _)
  · unfold Part.lowByteIn
    have h1 := Part.byteToMemory_moves p n false x
    dsimp only
    split
    · exact h1
    · exact h1.trans (Part.setPair_moves _ _)
  · exact Part.ramByteWrite_moves p _ _

theorem Part.writeWord_moves (p : Part) (n : Nat) (w : Word) : Moves p (p.writeWord n w) := by
  unfold Part.writeWord
  split
  · exact (Part.writeByteAt_moves p n false _).trans (Part.writeByteAt_moves _ n true _)
  · unfold Part.wordIn
    repeat' split
    · exact (Part.beginBoardWrite_moves p).trans (Part.takeBoardWord_moves _ _ w)
    · exact (Part.ramWordWrite_moves p _ w).trans (Part.handOver_moves _ n w)
    · exact Part.ramWordWrite_moves p _ w

theorem Part.answerRead_moves (p : Part) (k : Nat) : Moves p (p.answerRead k).1 := by
  unfold Part.answerRead
  repeat' split
  · exact Part.capture_moves p _
  · exact refl p
  · exact Part.release_moves p
  · exact Part.release_moves p

theorem Part.readByteAt_moves (p : Part) (k : Nat) (b : Bool) : Moves p (p.readByteAt k b) := by
  unfold Part.readByteAt
  repeat' split
  · unfold Part.highByteOut
    repeat' split
    · exact (Part.setReadHigh_moves p _).trans (Part.viewBoard_moves _ _ _)
    · exact (Part.answerRead_moves p k).trans (Part.viewBoard_moves _ _ _)
    · exact (Part.answerRead_moves p k).trans (Part.viewBoard_moves _ _ _)
  · unfold Part.lowByteOut
    exact ((Part.answerRead_moves p k).trans (Part.setReadHigh_moves _ _)).trans (Part.viewBoard_moves _ _ _)
  · exact Part.viewMemory_moves p _ _ _

theorem Part.readWord_moves (p : Part) (k : Nat) : Moves p (p.readWord k) := by
  unfold Part.readWord
  split
  · exact (Part.readByteAt_moves p k false).trans (Part.readByteAt_moves _ k true)
  · unfold Part.wordOut
    split
    · exact (Part.answerRead_moves p k).trans (Part.viewBoard_moves _ _ _)
    · exact Part.viewMemory_moves p _ _ _

theorem Part.withCycle_moves (p : Part) (c : Option BusCycle) (f : Part → BusCycle → Part)
    (h : ∀ q x, Moves q (f q x)) : Moves p (p.withCycle c f) := by
  unfold Part.withCycle
  split
  · exact h p _
  · exact refl p

theorem Part.finishCycle_moves (p : Part) (c : BusCycle) : Moves p (p.finishCycle c) := by
  unfold Part.finishCycle
  split
  · exact Part.plainCycle_moves p c
  · exact Part.plainCycle_moves p c
  · exact Part.viewBoard_moves p _ _
  · exact Part.viewBoard_moves p _ _

theorem Part.fallReset_moves (p : Part) (x : Straps) (c : Option BusCycle) : Moves p (p.fallReset x c) := by
  unfold Part.fallReset
  split
  · exact (Part.withCycle_moves p c _ Part.finishCycle_moves).step (.reset _ _ _)
  · exact refl p

theorem Part.riseReset_moves (p : Part) (x : Straps) (c : Option BusCycle) : Moves p (p.riseReset x c) := by
  unfold Part.riseReset
  split
  · exact refl p
  · exact (Part.withCycle_moves p c _ Part.plainCycle_moves).step (.reset _ _ _)

theorem Part.withLines_moves (p : Part) (ln : Lines) : Moves p (p.withLines ln) := Part.onPins_moves p _

/-! ## Commands -/

/-- Every command takes a next state, its part after a run of moves and the queue as it was. -/
theorem exec_moves (c : Instr) (s : State) :
    ∃ t, exec c s = .next t ∧ t.pending = s.pending ∧ Moves s.part t.part := by
  have key (f : Part → Part) (h : Moves s.part (f s.part)) :
      ∃ t, s.run f = .next t ∧ t.pending = s.pending ∧ Moves s.part t.part := ⟨s.onPart f, rfl, rfl, h⟩
  have hl (ln : Lines) (f : Part → Part) (h : ∀ q, Moves q (f q)) :
      ∃ t, s.run (fun p => f (p.withLines ln)) = .next t ∧ t.pending = s.pending ∧ Moves s.part t.part :=
    key _ ((Part.withLines_moves s.part ln).trans (h _))
  have hw (off : Nat) (w : Word) := key (fun p => p.writeWord off w) (Part.writeWord_moves _ _ _)
  have hlw (ln : Lines) (off : Nat) (w : Word) := hl ln (fun p => p.writeWord off w) fun q => q.writeWord_moves _ _
  have hb (off : Nat) (b : Bool) (x : Byte) (q : Part) : Moves q (q.byteWrite off b x) := by
    unfold Part.byteWrite
    split
    · exact Part.writeByteAt_moves _ _ _ _
    · exact refl _
  have hr (k : Nat) (b : Bool) (q : Part) : Moves q (q.byteRead k b) := by
    unfold Part.byteRead
    split
    · exact Part.readByteAt_moves _ _ _
    · exact refl _
  cases c with
  | plainCycle c =>
    refine key _ ?_
    unfold Part.plainCommand
    split
    · exact Part.plainCycle_moves _ c
    · exact refl _
  | setupWrite off w => exact hw _ _
  | scanRunOn r ln => exact hlw ln _ _
  | scanRunOff r ln => exact hlw ln _ _
  | testEnablesWrite w ln => exact hlw ln _ _
  | rosterWordWrite v k w => exact hw _ _
  | rosterCommit v w ln => exact hlw ln _ _
  | unitWord0Write u w => exact hw _ _
  | inquiryWrite u w => exact hw _ _
  | boardRead k => exact key _ (Part.readWord_moves _ _)
  | boardCapture b => exact key _ (Part.readWord_moves _ _)
  | lowByteRead k => exact key _ (hr _ _ _)
  | highByteRead k => exact key _ (hr _ _ _)
  | lowByteWrite off x => exact key _ (hb _ _ _ _)
  | highByteWrite off x ln => exact hl ln (fun p => p.byteWrite off true x) fun q => hb _ _ _ q
  | stagingWrite k w => exact hw _ _
  | openIncident ln => exact hlw ln _ _
  | amend ln => exact hlw ln _ _
  | closeIncident ln => exact hlw ln _ _
  | advance ln => exact hlw ln _ _
  | manualAttend ln => exact hlw ln _ _
  | release ln => exact hlw ln _ _
  | engineClear ln => exact hlw ln _ _
  | refusedUnknown code => exact hw _ _
  | notifyClear l w ln => exact hlw ln _ _
  | notifyEnableWrite l w => exact hw _ _
  | counterClear k w => exact hw _ _
  | errorRecordClear w => exact hw _ _
  | rejectRecordClear w => exact hw _ _
  | boardWriteIgnored k w => exact hw _ _
  | deviceReset x c => exact key _ (Part.fallReset_moves _ _ _)
  | resetRelease x c => exact key _ (Part.riseReset_moves _ _ _)
  | retryTimerExpiry ln => exact hl ln _ Part.retryExpires_moves
  | cdFall => exact key _ (Part.carrierFalls_moves _)
  | lbtTimerExpiry => exact key _ (Part.lbtExpires_moves _)
  | frameHeadEnd ln => exact hl ln _ Part.headSent_moves
  | packetEnd => exact key _ (Part.packetSent_moves _)
  | turnaroundEnd => exact key _ (Part.armReply_moves _)
  | replyStart => exact key _ (Part.replyStarts_moves _)
  | replyComplete r ln => exact hl ln (fun p => p.replyIn r) fun q => q.replyIn_moves r
  | replyWindowClose ln => exact hl ln _ Part.windowCloses_moves
  | holdGuardExpiry ln => exact hl ln _ Part.guardExpires_moves
  | stageTimerExpiry slot ln => exact hl ln (fun p => p.stageExpires slot) fun q => q.stageExpires_moves slot
  | repulseTimerExpiry l => exact key _ (Part.onNotify_moves _ _)
  | testRetryExpiry ln => exact hl ln _ Part.testRetryExpires_moves
  | testCdFall => exact key _ (Part.testCarrierFalls_moves _)
  | testLbtExpiry => exact key _ (Part.testLbtExpires_moves _)
  | burstEnd => exact key _ (Part.burstSent_moves _)
  | testTurnaroundEnd => exact key _ (Part.armListen_moves _)
  | testLeadIn => exact key _ (Part.leadInHeard_moves _)
  | patternWordReceived w ln => exact hl ln (fun p => p.patternWord w) fun q => q.patternWord_moves w
  | prbsGroupReceived w ln => exact hl ln (fun p => p.prbsGroup w) fun q => q.prbsGroup_moves w
  | testListenClose ln => exact hl ln _ Part.closeListen_moves
  | timerSecond slot => exact key _ (Part.onIncident_moves _ slot _ (.tick _))

/-- Every step takes a next state, its part after a run of moves. -/
theorem step_moves (s : State) : ∃ t, step s = .next t ∧ Moves s.part t.part := by
  unfold step
  split
  · next c rest h =>
    obtain ⟨t, ht, _, hm⟩ := exec_moves c { s with pending := rest }
    exact ⟨t, ht, hm⟩
  · exact ⟨s, rfl, refl _⟩

end Sys2Proof.Machine
end

