-- ==== Sys2Proof/Laws/Calm.lean ====
section
/-! SUPPORT. What the callout work of a command leaves of the rest of the part, said once for each of its operations:
the scan but for the urgent list and an ended hold, the settings, the link checks, the latched sources. -/

namespace Sys2Proof.Machine

/-! ## The relation -/

/-- `q` is `p` after callout work. Only the roster, the units, the engine, the urgent list and the latches can differ; a
hold can have ended; no latch is lost; an incident can have opened only where scan run is active. -/
structure Calm (p q : Part) : Prop where
  scan : q.scan = { p.scan with urgent := q.scan.urgent, guardTimer := q.scan.guardTimer }
  guard : q.scan.guardTimer = p.scan.guardTimer ∨ (p.scan.phase = .holding ∧ q.scan.guardTimer = none)
  enables : ∀ l, (q.notify.line l).enables = (p.notify.line l).enables
  latches : ∀ l (i : Nat), (p.notify.line l).status.getLsbD i = true → (q.notify.line l).status.getLsbD i = true
  rest : q.pins = p.pins ∧ q.bus = p.bus ∧ q.mem = p.mem ∧ q.settings = p.settings ∧ q.check = p.check
  opened : ∀ s, (q.incident s).state ≠ .free → (p.incident s).state ≠ .free ∨ p.settings.active.scanRun = true

theorem Calm.refl (p : Part) : Calm p p :=
  ⟨rfl, Or.inl rfl, fun _ => rfl, fun _ _ => id, ⟨rfl, rfl, rfl, rfl, rfl⟩, fun _ => Or.inl⟩

theorem Calm.phase {p q : Part} (h : Calm p q) : q.scan.phase = p.scan.phase := by rw [h.scan]

theorem Calm.trans {p q r : Part} (h : Calm p q) (k : Calm q r) : Calm p r := by
  obtain ⟨h1, h2, h3, h4, h5⟩ := h.rest
  obtain ⟨k1, k2, k3, k4, k5⟩ := k.rest
  refine ⟨?_, ?_, fun l => (k.enables l).trans (h.enables l), fun l i x => k.latches l i (h.latches l i x),
    ⟨k1.trans h1, k2.trans h2, k3.trans h3, k4.trans h4, k5.trans h5⟩, fun s x => ?_⟩
  · rw [k.scan, h.scan]
  · rcases k.guard with x | ⟨x, y⟩
    · rw [x]
      exact h.guard
    · exact Or.inr ⟨by rw [← h.phase]; exact x, y⟩
  · rcases k.opened s x with y | y
    · exact h.opened s y
    · exact Or.inr (by rw [← h4]; exact y)

theorem Calm.foldl {α : Type} (f : Part → α → Part) (h : ∀ p a, Calm p (f p a)) (l : List α) (p : Part) :
    Calm p (l.foldl f p) := by
  induction l generalizing p with
  | nil => exact Calm.refl p
  | cons a l ih => exact (h p a).trans (ih _)

/-- A change of the engine alone that opens no incident. -/
theorem Calm.engine (p : Part) (f : Engine → Engine)
    (h : ∀ s : Slot, (f p.engine).incidents[s].state ≠ .free → p.engine.incidents[s].state ≠ .free) :
    Calm p (p.onEngine f) :=
  ⟨rfl, Or.inl rfl, fun _ => rfl, fun _ _ => id, ⟨rfl, rfl, rfl, rfl, rfl⟩, fun s x => Or.inl (h s x)⟩

/-! ## One change -/

theorem NoteUnit.latch_keeps (n : NoteUnit) (i : Fin 8) (j : Nat) (h : n.status.getLsbD j = true) :
    (n.latch i).status.getLsbD j = true := by
  simp [NoteUnit.latch, h]

theorem Part.report_calm (p : Part) (x : Source) : Calm p (p.report x) := by
  refine ⟨rfl, Or.inl rfl, fun l => ?_, fun l i h => ?_, ⟨rfl, rfl, rfl, rfl, rfl⟩, fun _ => Or.inl⟩
  · simp only [Part.report, Part.onNotify_notify]
    cases l <;> cases x.line <;> rfl
  · simp only [Part.report, Part.onNotify_notify]
    cases l <;> cases x.line <;> first | exact h | exact NoteUnit.latch_keeps _ _ i h

theorem Part.onUnit_calm (p : Part) (u : UnitIx) (f : UnitEntry → UnitEntry) : Calm p (p.onUnit u f) :=
  ⟨rfl, Or.inl rfl, fun _ => rfl, fun _ _ => id, ⟨rfl, rfl, rfl, rfl, rfl⟩, fun _ => Or.inl⟩

theorem Part.onRosterEntry_calm (p : Part) (v : VolunteerIx) (f : RosterEntry → RosterEntry) :
    Calm p (p.onRosterEntry v f) :=
  ⟨rfl, Or.inl rfl, fun _ => rfl, fun _ _ => id, ⟨rfl, rfl, rfl, rfl, rfl⟩, fun _ => Or.inl⟩

theorem Part.onStanding_calm (p : Part) (v : VolunteerIx) (f : Standing → Standing) : Calm p (p.onStanding v f) :=
  Calm.engine p _ fun _ => id

/-- A move of an incident opens and closes nothing. -/
theorem IncidentMove.free_iff {i j : Incident} (h : IncidentMove i j) : j.state = .free ↔ i.state = .free := by
  have hc (k : Incident) (hk : k.state ≠ .free) : k.judgeComplete.state ≠ .free := by
    unfold Incident.judgeComplete
    split
    · simp
    · exact hk
  have hr (k : Incident) (hk : k.state ≠ .free) : k.judgeReturn.state ≠ .free := by
    unfold Incident.judgeReturn
    split
    · simp [Incident.startTimer]
    · exact hk
  cases h with
  | admitRole v r eta roles ho ha =>
    have := hc (i.enlist { volunteer := v, assignment := .role r, eta := eta }) ho
    simp [ho, this]
  | admitExtra v eta roles ho ha => rfl
  | remove v =>
    have e : (i.remove v).state = i.state := by
      unfold Incident.remove
      repeat' split
      all_goals rfl
    by_cases hf : i.state = .free
    · have : ¬ (i.remove v).reopens = true := by simp [Incident.reopens, e, hf]
      simp [Incident.judgeReturn, this, e]
    · have := hr (i.remove v) (by rw [e]; exact hf)
      simp [hf, this]
  | advance h =>
    unfold Incident.advance
    split <;> simp [Incident.startTimer, h]
  | amend st ho hd hcap hle =>
    have := hr _ (hc (i.amended st) ho)
    simp [ho, this]
  | tick =>
    unfold Incident.tick
    split <;> simp_all
  | offer => rfl
  | decline => rfl
  | turnedBack => rfl

theorem Part.onIncident_calm (p : Part) (s : Slot) (f : Incident → Incident)
    (h : IncidentMove (p.incident s) (f (p.incident s))) : Calm p (p.onIncident s f) := by
  refine Calm.engine p _ fun t ht => ?_
  dsimp only at ht
  rw [update_get] at ht
  split at ht
  · next e =>
    subst e
    exact fun e => ht (h.free_iff.2 e)
  · exact ht

theorem Part.clearUnreachable_calm (p : Part) : Calm p p.clearUnreachable := by
  refine Calm.engine p _ fun s hs => ?_
  simpa [Incident.clearUnreachable] using hs

theorem Part.freeIncident_calm (p : Part) (s : Slot) : Calm p (p.freeIncident s) := by
  refine Calm.engine p _ fun t ht => ?_
  dsimp only at ht
  rw [update_get] at ht
  split at ht
  · exact absurd rfl ht
  · exact ht

theorem Part.openSlot_calm (p : Part) (s : Slot) (k : Nat) (hc : p.openCheck = none) : Calm p (p.openSlot s k) := by
  have hr : p.settings.active.scanRun = true := by
    by_contra h
    rw [Bool.not_eq_true] at h
    simp only [Part.openCheck, h] at hc
    cases hc
  exact ⟨rfl, Or.inl rfl, fun _ => rfl, fun _ _ => id, ⟨rfl, rfl, rfl, rfl, rfl⟩, fun _ _ => Or.inr hr⟩

theorem Part.countStale_calm (p : Part) : Calm p p.countStale :=
  (Calm.engine p (fun e => { e with stale := countUp 65535 e.stale }) fun _ => id).trans (Part.report_calm _ _)

theorem Part.recordReject_calm (p : Part) (v : VolunteerIx) (why : RejectReason) (x : RejectPhase) :
    Calm p (p.recordReject v why x) := by
  refine Calm.trans ?_ (Part.report_calm _ _)
  exact ⟨rfl, Or.inl rfl, fun _ => rfl, fun _ _ => id, ⟨rfl, rfl, rfl, rfl, rfl⟩, fun _ => Or.inl⟩

theorem Part.endHold_calm (p : Part) : Calm p p.endHold := by
  unfold Part.endHold
  split
  · next h => exact ⟨rfl, Or.inr ⟨h, rfl⟩, fun _ => rfl, fun _ _ => id, ⟨rfl, rfl, rfl, rfl, rfl⟩, fun _ => Or.inl⟩
  · exact Calm.refl p

theorem Part.setMessage_calm (p : Part) (u : UnitIx) (s : Seat) (m : Message) : Calm p (p.setMessage u s m) := by
  unfold Part.setMessage
  split
  · refine Calm.trans ?_ (Part.endHold_calm _)
    split
    · exact Part.onUnit_calm p u _
    · exact Part.onUnit_calm p u _
  · exact Calm.refl p

/-! ## The Unit Table -/

theorem Part.tell_calm (p : Part) (v : VolunteerIx) (m : Message) : Calm p (p.tell v m) := by
  unfold Part.tell
  split
  · exact Part.setMessage_calm _ _ _ _
  · exact Calm.refl p

/-! ## The Roster Table -/

theorem Part.actOnPending_calm (p : Part) (v : VolunteerIx) : Calm p (p.actOnPending v) := by
  unfold Part.actOnPending
  split
  · exact Calm.refl p
  · next r hr =>
    dsimp only
    split
    · exact (Part.onRosterEntry_calm p v _).trans (Part.recordReject_calm _ _ _ _)
    · next h => exact (Part.onRosterEntry_calm p v _).trans (Part.onRosterEntry_calm _ v _)

theorem Part.actOnPendings_calm (p : Part) (l : List VolunteerIx) : Calm p (p.actOnPendings l) :=
  Calm.foldl _ (fun q v => Part.actOnPending_calm q v) l p

/-! ## The Callout Engine -/

theorem Part.offer_calm (p : Part) (v : VolunteerIx) (s : Slot) : Calm p (p.offer v s) :=
  ((Part.onStanding_calm p v _).trans (Part.onIncident_calm _ s _ (.offer _))).trans (Part.tell_calm _ _ _)

theorem Part.countOutOfReach_calm (p : Part) (l : List Slot) : Calm p (p.countOutOfReach l) :=
  Calm.foldl _ (fun q s => Calm.engine q _ fun t ht => by
    dsimp only at ht
    rw [update_get] at ht
    split at ht
    · next e => subst e; exact ht
    · exact ht) l p

theorem Part.judgeVolunteer_calm (p : Part) (v : VolunteerIx) : Calm p (p.judgeVolunteer v) := by
  unfold Part.judgeVolunteer
  dsimp only
  repeat' split
  all_goals first
    | exact Calm.refl p
    | exact Part.offer_calm _ _ _
    | exact Part.countOutOfReach_calm _ _

theorem Part.round_calm (p : Part) : Calm p p.round := by
  unfold Part.round
  exact (Part.clearUnreachable_calm p).trans (Calm.foldl _ Part.judgeVolunteer_calm _ _)

theorem Part.roundIf_calm (p : Part) (b : Bool) : Calm p (p.roundIf b) := by
  unfold Part.roundIf
  split
  · exact Part.round_calm p
  · exact Calm.refl p

theorem Part.setFree_calm (p : Part) (v : VolunteerIx) : Calm p (p.setFree v) := Part.onStanding_calm p v _

theorem Part.addDeclined_calm (p : Part) (v : VolunteerIx) (s : Slot) : Calm p (p.addDeclined v s) :=
  Part.onStanding_calm p v _

theorem Part.standDownFree_calm (p : Part) (v : VolunteerIx) : Calm p (p.standDownFree v) :=
  (Part.tell_calm p v _).trans (Part.setFree_calm _ v)

theorem Part.trim_calm (p : Part) (s : Slot) : Calm p (p.trim s) :=
  (Calm.foldl _ Part.standDownFree_calm _ p).trans (Part.actOnPendings_calm _ _)

theorem Part.admitted_calm (p : Part) (v : VolunteerIx) (s : Slot) (a : Assignment) (eta : Nat)
    (ho : (p.incident s).state ≠ .free) (roles : BitVec 6) (h : (p.incident s).assignment roles = some a) :
    Calm p (p.admitted v s a eta) := by
  cases a with
  | extra =>
    exact ((Part.onIncident_calm p s _ (.admitExtra _ v eta roles ho h)).trans (Part.onStanding_calm _ v _)).trans
      (Part.report_calm _ _)
  | role r =>
    rw [Part.admitted_role]
    have hm : Calm p (((p.onIncident s fun i =>
          (i.enlist { volunteer := v, assignment := .role r, eta := eta }).judgeComplete).onStanding v
            fun x => { x with engagement := .attending s }).report .attendTaken) :=
      ((Part.onIncident_calm p s _ (.admitRole _ v r eta roles ho h)).trans (Part.onStanding_calm _ v _)).trans
        (Part.report_calm _ _)
    dsimp only
    split
    · exact hm.trans (Part.report_calm _ _)
    · exact hm

theorem Part.admit_calm (p : Part) (v : VolunteerIx) (s : Slot) (a : Assignment) (eta : Nat)
    (ho : (p.incident s).state ≠ .free) (roles : BitVec 6) (h : (p.incident s).assignment roles = some a) :
    Calm p (p.enlist v s a eta) := by
  have hm := Part.admitted_calm p v s a eta ho roles h
  cases a with
  | extra => exact hm
  | role r => exact hm.trans (Part.trim_calm _ _)

theorem Part.removeAttendee_calm (p : Part) (v : VolunteerIx) (s : Slot) : Calm p (p.removeAttendee v s) := by
  rw [Part.removeAttendee_eq]
  have hm : Calm p ((p.onIncident s fun i => (i.remove v).judgeReturn).setFree v) :=
    (Part.onIncident_calm p s _ (.remove _ v)).trans (Part.setFree_calm _ v)
  dsimp only
  split
  · exact hm.trans (Part.report_calm _ _)
  · exact hm

theorem Part.turnBack_calm (p : Part) (v : VolunteerIx) (s : Slot) : Calm p (p.turnBack v s) := by
  have hm : Calm p ((((p.tell v .standDown).addDeclined v s).setFree v).onIncident s Incident.countTurnedBack) :=
    (((Part.tell_calm p v _).trans (Part.addDeclined_calm _ v s)).trans (Part.setFree_calm _ v)).trans
      (Part.onIncident_calm _ s _ (.turnedBack _))
  unfold Part.turnBack
  dsimp only
  split
  · exact hm
  · exact (hm.trans (Part.actOnPending_calm _ v)).trans (Part.round_calm _)

theorem Part.alertAgain_calm (p : Part) (v : VolunteerIx) (s : Slot) : Calm p (p.alertAgain v s) :=
  Part.tell_calm p v _

theorem Part.attendAdmit_calm (p : Part) (v : VolunteerIx) (s : Slot) (eta : Nat)
    (ho : (p.incident s).state ≠ .free) : Calm p (p.attendAdmit v s eta) := by
  unfold Part.attendAdmit
  split
  · exact Part.turnBack_calm p v s
  · next a ha =>
    have hm := Part.admit_calm p v s a eta ho _ ha
    dsimp only
    refine Calm.trans ?_ (Part.roundIf_calm _ _)
    split
    · exact hm.trans (Part.alertAgain_calm _ _ _)
    · exact hm

theorem Part.takeAttend_calm (p : Part) (v : VolunteerIx) (eta : Nat) (s : Slot) (g : BitVec 4) :
    Calm p (p.takeAttend v eta s g) := by
  unfold Part.takeAttend
  have hs (t : Slot) : Calm p (p.countStale.alertAgain v t) :=
    (Part.countStale_calm p).trans (Part.alertAgain_calm _ _ _)
  split
  · split
    · next h => exact Part.attendAdmit_calm p v s eta (p.names_open s g h.2)
    · exact hs _
  · split
    · exact Calm.refl p
    · exact hs _
  · split
    · next h => exact Part.attendAdmit_calm p v s eta (p.names_open s g h.1)
    · exact (Part.countStale_calm p).trans (Part.tell_calm _ _ _)

theorem Part.declineOffer_calm (p : Part) (v : VolunteerIx) (s : Slot) : Calm p (p.declineOffer v s) :=
  ((((((Part.tell_calm p v _).trans (Part.addDeclined_calm _ v s)).trans (Part.setFree_calm _ v)).trans
    (Part.onIncident_calm _ s _ (.decline _))).trans (Part.report_calm _ _)).trans (Part.actOnPending_calm _ v)).trans
      (Part.round_calm _)

theorem Part.declineAttendance_calm (p : Part) (v : VolunteerIx) (s : Slot) : Calm p (p.declineAttendance v s) :=
  ((((((Part.removeAttendee_calm p v s).trans (Part.tell_calm _ v _)).trans (Part.addDeclined_calm _ v s)).trans
    (Part.onIncident_calm _ s _ (.decline _))).trans (Part.report_calm _ _)).trans (Part.actOnPending_calm _ v)).trans
      (Part.round_calm _)

theorem Part.takeDecline_calm (p : Part) (v : VolunteerIx) (s : Slot) (g : BitVec 4) :
    Calm p (p.takeDecline v s g) := by
  unfold Part.takeDecline
  have hs (t : Slot) : Calm p (p.countStale.alertAgain v t) :=
    (Part.countStale_calm p).trans (Part.alertAgain_calm _ _ _)
  split
  · split
    · exact Part.declineOffer_calm _ _ _
    · exact hs _
  · split
    · exact Part.declineAttendance_calm _ _ _
    · exact hs _
  · exact Part.countStale_calm p

theorem Part.setHome_calm (p : Part) (v : VolunteerIx) (b : Bool) : Calm p (p.setHome v b) := Part.onRosterEntry_calm p v _

theorem Part.takeEvent_calm (p : Part) (v : VolunteerIx) (e : SeatEvent) : Calm p (p.takeEvent v e) := by
  cases e with
  | none => exact Calm.refl p
  | attend eta s g => exact Part.takeAttend_calm p v eta s g
  | decline s g => exact Part.takeDecline_calm p v s g
  | availOff =>
    simp only [Part.takeEvent, Part.takeAvailOff]
    split
    · exact (Part.setHome_calm p v _).trans (Part.declineOffer_calm _ _ _)
    · exact Part.setHome_calm p v _
    · exact Part.setHome_calm p v _
  | availOn => exact (Part.setHome_calm p v _).trans (Part.roundIf_calm _ _)

theorem Part.judgeEvent_calm (p : Part) (u : UnitIx) (s : Seat) (w : Word) : Calm p (p.judgeEvent u s w) := by
  unfold Part.judgeEvent
  dsimp only
  split
  · exact Calm.refl p
  · split
    · exact Part.onUnit_calm p u _
    · split
      · exact (Part.onUnit_calm p u _).trans (Part.takeEvent_calm _ _ _)
      · exact (Part.onUnit_calm p u _).trans (Part.countStale_calm _)

theorem Part.expireStage_calm (p : Part) (s : Slot) (h : (p.incident s).state = .calling) :
    Calm p (p.expireStage s) := by
  unfold Part.expireStage
  dsimp only
  have hm := Part.onIncident_calm p s _ (.advance _ h)
  split
  · exact (hm.trans (Part.report_calm _ _)).trans (Part.round_calm _)
  · exact hm.trans (Part.report_calm _ _)

theorem Part.unitDisabled_calm (p : Part) (u : UnitIx) : Calm p (p.unitDisabled u) := by
  unfold Part.unitDisabled
  exact ((Calm.foldl _ Part.setFree_calm _ p).trans (Part.actOnPendings_calm _ _)).trans (Part.roundIf_calm _ _)

theorem Part.takeEnable_calm (p : Part) (u : UnitIx) : Calm p (p.takeEnable u) := by
  unfold Part.takeEnable
  dsimp only
  split
  · exact Calm.refl p
  · split
    · exact (Part.onUnit_calm p u _).trans (Part.round_calm _)
    · exact (Part.onUnit_calm p u _).trans (Part.unitDisabled_calm _ u)

theorem Part.takeEnables_calm (p : Part) : Calm p p.takeEnables := by
  unfold Part.takeEnables
  exact Calm.foldl _ Part.takeEnable_calm _ p

theorem Part.commit_calm (p : Part) (v : VolunteerIx) (w : Word) : Calm p (p.commit v w) := by
  unfold Part.commit
  dsimp only
  split
  · exact Part.recordReject_calm _ _ _ _
  · next h =>
    split
    · exact (Part.onRosterEntry_calm p v _).trans (Part.round_calm _)
    · exact Part.onRosterEntry_calm p v _
    · exact Part.onRosterEntry_calm p v _

/-! ## Requests -/

theorem Part.doOpen_calm (p : Part) : Calm p p.doOpen.part := by
  unfold Part.doOpen
  split
  · exact Calm.refl p
  · next hc =>
    dsimp only
    split
    · next s k hs hk =>
      dsimp only
      exact (Part.openSlot_calm p s k hc).trans (Part.round_calm _)
    · exact Calm.refl p

/-- An AMEND's change of the incident, its judgements included, as one update. -/
theorem Part.amended_calm (p : Part) (s : Slot) (st : Staging) :
    ∃ q, ((p.onIncident s fun i => i.amended st).judgeComplete s).judgeReturn s = q ∧
      Calm (p.onIncident s fun i => (i.amended st).judgeComplete.judgeReturn) q := by
  refine ⟨_, rfl, ?_⟩
  have e : (p.onIncident s fun i => i.amended st).incident s = (p.incident s).amended st := by simp [Part.incident]
  unfold Part.judgeComplete
  rw [e]
  by_cases hc : ((p.incident s).amended st).completes = true
  · have hn : (((p.incident s).amended st).judgeComplete).reopens = false := by
      simp only [Incident.completes, Bool.and_eq_true] at hc
      simp only [Incident.judgeComplete, Incident.completes, hc.1, hc.2, Bool.and_self, if_true, Incident.reopens]
      have : Incident.crewed { (p.incident s).amended st with state := .complete, timer := none } = true := hc.2
      simp [this]
    have e2 : (((p.onIncident s fun i => i.amended st).onIncident s Incident.judgeComplete).report
        .crewComplete).incident s = ((p.incident s).amended st).judgeComplete := by
      simp [Part.incident]
    rw [if_pos hc]
    unfold Part.judgeReturn
    rw [e2, hn]
    have hj : ((p.incident s).amended st).judgeComplete.judgeReturn = ((p.incident s).amended st).judgeComplete := by
      simp [Incident.judgeReturn, hn]
    have : ((p.onIncident s fun i => i.amended st).onIncident s Incident.judgeComplete) =
        (p.onIncident s fun i => (i.amended st).judgeComplete.judgeReturn) := by
      simp only [Part.onIncident, Part.onEngine, update, Part.incident] at hj ⊢
      rw [hj]
      simp
    rw [if_neg (by simp), this]
    exact Part.report_calm _ _
  · have hj : ((p.incident s).amended st).judgeComplete = (p.incident s).amended st := by
      simp [Incident.judgeComplete, hc]
    rw [if_neg hc]
    unfold Part.judgeReturn
    rw [e]
    by_cases hr : ((p.incident s).amended st).reopens = true
    · rw [if_pos hr]
      have : ((p.onIncident s fun i => i.amended st).onIncident s Incident.judgeReturn) =
          (p.onIncident s fun i => (i.amended st).judgeComplete.judgeReturn) := by
        simp only [Part.onIncident, Part.onEngine, update, Part.incident] at hj ⊢
        rw [hj]
        simp
      rw [this]
      exact Part.report_calm _ _
    · rw [if_neg hr]
      have hj2 : ((p.incident s).amended st).judgeReturn = (p.incident s).amended st := by
        simp [Incident.judgeReturn, hr]
      have : (p.onIncident s fun i => i.amended st) =
          (p.onIncident s fun i => (i.amended st).judgeComplete.judgeReturn) := by
        simp only [Part.onIncident, Part.onEngine, update, Part.incident] at hj hj2 ⊢
        rw [hj, hj2]
      rw [this]
      exact Calm.refl _

theorem Part.doAmend_calm (p : Part) : Calm p p.doAmend.part := by
  unfold Part.doAmend
  split
  · exact Calm.refl p
  · next s hs =>
    split
    · exact Calm.refl p
    · next hi =>
      obtain ⟨q, hq, hm⟩ := p.amended_calm s p.bus.staging
      have ho := p.stagedIncident_open s hs
      simp only [Part.amendInvalid, Bool.or_eq_true, decide_eq_true_eq, not_or, Nat.not_lt] at hi
      have h1 : Calm p (p.onIncident s fun i => (i.amended p.bus.staging).judgeComplete.judgeReturn) :=
        Part.onIncident_calm p s _ (.amend _ _ ho hi.1.1.1 hi.1.1.2 hi.1.2 hi.2)
      simp only [Part.done, hq]
      exact ((h1.trans hm).trans (Part.trim_calm _ s)).trans (Part.round_calm _)

theorem Part.standDownSlot_calm (p : Part) (s : Slot) : Calm p (p.standDownSlot s) := by
  unfold Part.standDownSlot
  exact Calm.foldl _ Part.standDownFree_calm _ p

theorem Part.doClose_calm (p : Part) : Calm p p.doClose.part := by
  unfold Part.doClose
  split
  · exact Calm.refl p
  · next s hs =>
    dsimp only [Part.done]
    exact (((Part.standDownSlot_calm p s).trans (Part.freeIncident_calm _ s)).trans
      (Part.actOnPendings_calm _ _)).trans (Part.roundIf_calm _ _)

theorem Part.doAdvance_calm (p : Part) : Calm p p.doAdvance.part := by
  unfold Part.doAdvance
  split
  · exact Calm.refl p
  · split
    · next s hs h => exact Part.expireStage_calm p s h
    · exact Calm.refl p

theorem Part.manualAdmit_calm (p : Part) (v : VolunteerIx) (s : Slot) (eta : Nat)
    (ho : (p.incident s).state ≠ .free) : Calm p (p.manualAdmit v s eta).part := by
  unfold Part.manualAdmit
  split
  · exact Calm.refl p
  · next a ha =>
    exact ((Part.admit_calm p v s a eta ho _ ha).trans (Part.alertAgain_calm _ _ _)).trans (Part.roundIf_calm _ _)

theorem Part.doManualAttend_calm (p : Part) : Calm p p.doManualAttend.part := by
  unfold Part.doManualAttend
  split
  · exact Calm.refl p
  · next s hs =>
    have ho := p.stagedIncident_open s hs
    split
    · exact Calm.refl p
    · dsimp only
      repeat' split
      all_goals first
        | exact Calm.refl p
        | exact Part.manualAdmit_calm p _ s _ ho

theorem Part.doRelease_calm (p : Part) : Calm p p.doRelease.part := by
  unfold Part.doRelease
  split
  · exact Calm.refl p
  · next v hv =>
    split
    · exact Calm.refl p
    · next s hs =>
      dsimp only [Part.done]
      exact ((((Part.tell_calm p v _).trans (Part.addDeclined_calm _ v s)).trans (Part.setFree_calm _ v)).trans
        (Part.actOnPending_calm _ v)).trans (Part.round_calm _)
    · next s hs =>
      dsimp only [Part.done]
      exact ((((Part.removeAttendee_calm p v s).trans (Part.tell_calm _ v _)).trans
        (Part.addDeclined_calm _ v s)).trans (Part.actOnPending_calm _ v)).trans (Part.round_calm _)

theorem Part.doEngineClear_calm (p : Part) : Calm p p.doEngineClear.part := by
  unfold Part.doEngineClear
  dsimp only [Part.done]
  exact (((Calm.foldl _ Part.standDownSlot_calm _ p).trans
    (Calm.foldl _ Part.freeIncident_calm _ _)).trans (Part.actOnPendings_calm _ _)).trans
      (Part.roundIf_calm _ _)

theorem Part.request_calm (p : Part) (code : Word) : Calm p (p.request code).part := by
  unfold Part.request
  repeat' split
  · exact Part.doOpen_calm p
  · exact Part.doAmend_calm p
  · exact Part.doClose_calm p
  · exact Part.doAdvance_calm p
  · exact Part.doManualAttend_calm p
  · exact Part.doRelease_calm p
  · exact Part.doEngineClear_calm p
  · exact Calm.refl p

end Sys2Proof.Machine
end

