-- ==== Sys2Proof/Laws/Commands.lean ====
section
/-! SUPPORT. What a command is, once its bus cycles are done: the word that a forwarded or withheld word command leaves to
its owner, and what a board read answers. -/

namespace Sys2Proof.Machine

theorem Memory.storesByte_write (m : List Host.Cell) (a : Nat) (x : Byte) (h : Memory.wf m = true) :
    Memory.storesByte m (Memory.write m a x) a x := by
  intro b; rw [Memory.read_write _ h]

theorem Memory.storesWord_write (m : List Host.Cell) (a : Nat) (w : Word) (h : Memory.wf m = true) :
    Memory.storesWord m (Memory.write (Memory.write m (2 * a) (lowByte w)) (2 * a + 1) (highByte w)) a w := by
  intro b
  rw [Memory.read_write _ (Memory.wf_write _ h _ _), Memory.read_write _ h]
  by_cases h1 : b = 2 * a
  · subst h1; rw [if_neg (by omega), if_pos rfl, if_pos rfl]
  · rw [if_neg h1, if_neg h1]

/-- The levels of RDY and CD as they stand change nothing. -/
theorem Part.withLines_self (p : Part) : p.withLines ⟨p.pins.rdy, p.pins.cd⟩ = p := rfl

/-- Every word command is one write of its word, with the levels of RDY and CD it carries or those that stand. -/
theorem exec_wordOfCommand (c : Instr) (off : Nat) (w : Word) (h : wordOfCommand c = some (off, w)) (s : State) :
    ∃ ln : Lines, exec c s = .next { s with part := (s.part.withLines ln).writeWord off w } := by
  have own : ∀ f : Part → Part,
      s.run f = .next { s with part := f (s.part.withLines ⟨s.part.pins.rdy, s.part.pins.cd⟩) } := fun _ => rfl
  cases c with
  | setupWrite off w => cases h; exact ⟨_, own _⟩
  | scanRunOn r ln => cases h; exact ⟨ln, rfl⟩
  | scanRunOff r ln => cases h; exact ⟨ln, rfl⟩
  | testEnablesWrite w ln => cases h; exact ⟨ln, rfl⟩
  | rosterWordWrite v k w => cases h; exact ⟨_, own _⟩
  | rosterCommit v w ln => cases h; exact ⟨ln, rfl⟩
  | unitWord0Write u w => cases h; exact ⟨_, own _⟩
  | inquiryWrite u w => cases h; exact ⟨_, own _⟩
  | stagingWrite k w => cases h; exact ⟨_, own _⟩
  | openIncident ln => cases h; exact ⟨ln, rfl⟩
  | amend ln => cases h; exact ⟨ln, rfl⟩
  | closeIncident ln => cases h; exact ⟨ln, rfl⟩
  | advance ln => cases h; exact ⟨ln, rfl⟩
  | manualAttend ln => cases h; exact ⟨ln, rfl⟩
  | release ln => cases h; exact ⟨ln, rfl⟩
  | engineClear ln => cases h; exact ⟨ln, rfl⟩
  | refusedUnknown code => cases h; exact ⟨_, own _⟩
  | notifyClear l w ln => cases l <;> (cases h; exact ⟨ln, rfl⟩)
  | notifyEnableWrite l w => cases l <;> (cases h; exact ⟨_, own _⟩)
  | counterClear k w =>
    cases h
    have e : exec (.counterClear k w) s = s.run fun p => p.writeWord (0x2000 + (0x030 + k.val)) w := rfl
    rw [e, show 0x2000 + (0x030 + k.val) = 0x2030 + k.val by omega]
    exact ⟨_, own _⟩
  | errorRecordClear w => cases h; exact ⟨_, own _⟩
  | rejectRecordClear w => cases h; exact ⟨_, own _⟩
  | boardWriteIgnored k w => cases h; exact ⟨_, own _⟩
  | _ => cases h

/-- The cycles of a forwarded word leave it in memory and hand it over. -/
theorem Part.writeWord_handOver (p : Part) (off : Nat) (w : Word) (hr : p.pins.resetN = true)
    (hm : Memory.wf p.mem = true) (hw : (windowOf off).forwarded = true) :
    ∃ q, p.forwarded q off w ∧ p.writeWord off w = q.handOver off w :=
  ⟨p.forwardedWord off w, ⟨rfl, Memory.storesWord_write _ _ _ hm⟩, p.writeWord_forwarded off w hr hw⟩

theorem Part.withheldWord_eq (p : Part) : p.withheldWord = p.withheld := rfl

/-- A board write is taken by its place. -/
theorem Part.writeBoard_take (p : Part) (k : Nat) (w : Word) (hk : k < 4096) (hr : p.pins.resetN = true) :
    p.writeBoard k w = p.withheld.takeBoardWord k w := p.writeBoard_eq k w hk hr

/-- A word of a block is shown live at its place on the board. -/
theorem Part.liveWord_block (p : Part) (k : Nat) (b : BlockName) (j : Nat) (h : blockAt k = some (b, j)) :
    p.liveWord k = p.blockWord b j := by
  have hb : 0x080 ≤ k := by
    unfold blockAt at h
    split at h
    · next x => exact x.1
    · split at h
      · next x => omega
      · cases h
  have above (n : Nat) (hn : n ≤ 0x040) : (k < n) = False := eq_false (by omega)
  simp [Part.liveWord, above, h]

/-- What a board read leaves in the capture latch and what it answers. -/
theorem Part.answerRead_eq (p : Part) (k : Nat) :
    p.answerRead k = ({ p with bus := { p.bus with capture := p.captureAfter k } }, p.boardAnswer k) := by
  unfold Part.answerRead Part.captureAfter Part.boardAnswer
  cases hb : blockAt k with
  | none => cases hc : p.bus.capture <;> simp [Part.release, Part.onBus]
  | some bj =>
    obtain ⟨b, j⟩ := bj
    have := p.liveWord_block k b j hb
    cases j with
    | zero => simp [Part.capture, Part.onBus, this]
    | succ j =>
      cases hc : p.bus.capture with
      | none => simp [Bus.copyOf, hc, Part.release, Part.onBus]
      | some c =>
        simp only [Bus.copyOf, hc]
        by_cases hcb : c.block = b
        · subst hcb; simp [← hc]
        · simp [hcb, Part.release, Part.onBus]

/-- Word 0 of a block lies at its start. -/
theorem blockAt_blockStart (b : BlockName) : blockAt (blockStart b) = some (b, 0) ∧ blockStart b < 4096 := by
  cases b with
  | incident x =>
    have := x.isLt
    refine ⟨?_, by simp [blockStart]; omega⟩
    have hk : blockStart (.incident x) = 128 + 64 * x.val := rfl
    generalize blockStart (.incident x) = k at hk
    unfold blockAt
    rw [dif_pos (by omega)]
    congr 1
    refine Prod.ext ?_ ?_
    · simp only [BlockName.incident.injEq]; ext; simp only; omega
    · simp only; omega
  | unit x =>
    have := x.isLt
    refine ⟨?_, by simp [blockStart]; omega⟩
    have hk : blockStart (.unit x) = 1024 + 8 * x.val := rfl
    generalize blockStart (.unit x) = k at hk
    unfold blockAt
    rw [dif_neg (by omega), dif_pos (by omega)]
    congr 1
    refine Prod.ext ?_ ?_
    · simp only [BlockName.unit.injEq]; ext; simp only; omega
    · simp only; omega

/-! ## Words by their offset -/

theorem windowOf_setup (off : Nat) (h : off < 0x0100) : windowOf off = .setup := by
  unfold windowOf; rw [if_pos h]

theorem windowOf_roster (off : Nat) (h : 0x0800 ≤ off ∧ off < 0x0BC0) : windowOf off = .roster := by
  unfold windowOf; rw [if_neg (by omega), if_pos h]

theorem windowOf_unit (off : Nat) (h : 0x1000 ≤ off ∧ off < 0x1140) : windowOf off = .unit := by
  unfold windowOf; rw [if_neg (by omega), if_neg (by omega), if_pos h]

theorem Part.handOver_setup (p : Part) (off : Nat) (w : Word) (h : off < 0x0100) :
    p.handOver off w = p.takeSetupWord off w := by
  unfold Part.handOver; rw [if_pos h]

theorem Part.handOver_roster (p : Part) (v : VolunteerIx) (k : Nat) (hk : k < 4) (w : Word) :
    p.handOver (0x0800 + 4 * v.val + k) w = p.takeRosterWord v k w := by
  have hv := v.isLt
  unfold Part.handOver
  rw [if_neg (by omega), dif_pos (by omega)]
  have e1 : rosterVolunteer (0x0800 + 4 * v.val + k) (by omega) = v := by
    ext; simp only [rosterVolunteer]; omega
  rw [e1, show (0x0800 + 4 * v.val + k) % 4 = k by omega]

theorem Part.handOver_unit (p : Part) (u : UnitIx) (k : Nat) (hk : k < 2) (w : Word) :
    p.handOver (0x1000 + 2 * u.val + k) w = p.takeUnitWord u k w := by
  have hu := u.isLt
  unfold Part.handOver
  rw [if_neg (by omega), dif_neg (by omega), dif_pos (by omega)]
  have e1 : unitOfOffset (0x1000 + 2 * u.val + k) (by omega) = u := by
    ext; simp only [unitOfOffset]; omega
  rw [e1, show (0x1000 + 2 * u.val + k) % 2 = k by omega]

/-- A SETUP word command, once its word is handed over. -/
theorem Part.setupWord (p : Part) (off : Nat) (w : Word) (ho : off < 0x0100) (hr : p.pins.resetN = true)
    (hm : Memory.wf p.mem = true) : ∃ q, p.forwarded q off w ∧ p.writeWord off w = q.takeSetupWord off w := by
  obtain ⟨q, hq, e⟩ := p.writeWord_handOver off w hr hm (by rw [windowOf_setup off ho]; rfl)
  exact ⟨q, hq, e.trans (q.handOver_setup off w ho)⟩

/-- A ROSTER word command, once its word is handed over. -/
theorem Part.rosterWord (p : Part) (v : VolunteerIx) (k : Nat) (hk : k < 4) (w : Word) (hr : p.pins.resetN = true)
    (hm : Memory.wf p.mem = true) :
    ∃ q, p.forwarded q (0x0800 + 4 * v.val + k) w ∧
      p.writeWord (0x0800 + 4 * v.val + k) w = q.takeRosterWord v k w := by
  have hv := v.isLt
  obtain ⟨q, hq, e⟩ := p.writeWord_handOver (0x0800 + 4 * v.val + k) w hr hm
    (by rw [windowOf_roster _ (by omega)]; rfl)
  exact ⟨q, hq, e.trans (q.handOver_roster v k hk w)⟩

/-- A UNIT word command, once its word is handed over. -/
theorem Part.unitWordHanded (p : Part) (u : UnitIx) (k : Nat) (hk : k < 2) (w : Word) (hr : p.pins.resetN = true)
    (hm : Memory.wf p.mem = true) :
    ∃ q, p.forwarded q (0x1000 + 2 * u.val + k) w ∧
      p.writeWord (0x1000 + 2 * u.val + k) w = q.takeUnitWord u k w := by
  have hu := u.isLt
  obtain ⟨q, hq, e⟩ := p.writeWord_handOver (0x1000 + 2 * u.val + k) w hr hm
    (by rw [windowOf_unit _ (by omega)]; rfl)
  exact ⟨q, hq, e.trans (q.handOver_unit u k hk w)⟩

/-! ## What forwarding leaves -/

section
variable {p q : Part} {off : Nat} {w : Word}

theorem Part.forwarded.pins (h : p.forwarded q off w) : q.pins = p.pins := by rw [h.1]
theorem Part.forwarded.settings (h : p.forwarded q off w) : q.settings = p.settings := by rw [h.1]
theorem Part.forwarded.roster (h : p.forwarded q off w) : q.roster = p.roster := by rw [h.1]
theorem Part.forwarded.units (h : p.forwarded q off w) : q.units = p.units := by rw [h.1]
theorem Part.forwarded.scan (h : p.forwarded q off w) : q.scan = p.scan := by rw [h.1]
theorem Part.forwarded.engine (h : p.forwarded q off w) : q.engine = p.engine := by rw [h.1]
theorem Part.forwarded.notify (h : p.forwarded q off w) : q.notify = p.notify := by rw [h.1]
theorem Part.forwarded.check (h : p.forwarded q off w) : q.check = p.check := by rw [h.1]
theorem Part.forwarded.staging (h : p.forwarded q off w) : q.bus.staging = p.bus.staging := by rw [h.1]; rfl

end

/-! ## Records kept in the statements' words -/

theorem Part.recordError_eq (p : Part) (k : ErrorKind) (off : Nat) : p.recordError k off = p.errorKept k off := rfl

theorem Part.recordReject_eq (p : Part) (v : VolunteerIx) (why : RejectReason) (phase : RejectPhase) :
    p.recordReject v why phase = p.rejectKept v why phase := rfl

theorem Part.countStale_eq (p : Part) : p.countStale = p.staleKept := rfl

/-- While a hold stands, nothing follows an event's own work. -/
theorem Part.settle_of_holdStands (p : Part) (h : p.holdStands) : p.settle = p := by
  unfold Part.settle; rw [if_neg]; rintro ⟨h1, h2⟩; exact h h1 h2

end Sys2Proof.Machine
end

