-- ==== Sys2Proof/Laws/Layouts.lean ====
section
/-! SUPPORT. Words built field by field: a join of fields that do not overlap is the sum of what they carry. -/

namespace Sys2Proof.Machine

/-- A field within the word is the value moved to its place. -/
theorem field_of_bitVec (lo wd : Nat) (x : BitVec wd) (h : lo + wd ≤ 16) :
    field lo wd x.toNat = (x.setWidth 16) <<< lo := by
  apply BitVec.eq_of_getLsbD_eq
  intro i hi
  simp only [field, BitVec.getLsbD_ofNat, Nat.testBit_mul_two_pow, Nat.testBit_mod_two_pow, hi, decide_true,
    Bool.true_and, BitVec.testBit_toNat, BitVec.getLsbD_shiftLeft, BitVec.getLsbD_setWidth]
  by_cases h1 : lo ≤ i
  · have e1 : decide (i - lo < 16) = true := by simp; omega
    have e2 : decide (i < lo) = false := by simp; omega
    by_cases h2 : i - lo < wd
    · simp [h1, h2, e1, e2]
    · have e3 : x.getLsbD (i - lo) = false := BitVec.getLsbD_of_ge _ _ (by omega)
      simp [e3]
  · have e2 : decide (i < lo) = true := by simp; omega
    simp [h1, e2]

/-- The fields follow one another from bit `lo` up and stay within the word. -/
def fieldsApart : Nat → List (Nat × Nat × Nat) → Bool
  | _, [] => true
  | lo, x :: rest => decide (lo ≤ x.1) && decide (x.1 + x.2.1 ≤ 16) && fieldsApart (x.1 + x.2.1) rest

theorem field_toNat (lo width n : Nat) (h : lo + width ≤ 16) : (field lo width n).toNat = n % 2 ^ width * 2 ^ lo := by
  have hn : n % 2 ^ width < 2 ^ width := Nat.mod_lt _ (Nat.two_pow_pos _)
  have hp : (2 : Nat) ^ width * 2 ^ lo ≤ 2 ^ 16 := by
    rw [← pow_add]
    exact Nat.pow_le_pow_right (by decide) (by omega)
  rw [field, BitVec.toNat_ofNat, Nat.mod_eq_of_lt]
  exact lt_of_lt_of_le (Nat.mul_lt_mul_of_pos_right hn (Nat.two_pow_pos _)) hp

/-- A word below bit `lo` and a field from `lo` up do not overlap: their join is their sum. -/
theorem or_field_toNat (w : Word) (lo width n : Nat) (h : lo + width ≤ 16) (hw : w.toNat < 2 ^ lo) :
    (w ||| field lo width n).toNat = w.toNat + n % 2 ^ width * 2 ^ lo := by
  rw [BitVec.toNat_or, field_toNat lo width n h, Nat.or_comm, Nat.mul_comm _ (2 ^ lo),
    ← Nat.two_pow_add_eq_or_of_lt hw, Nat.add_comm]

theorem packed_acc (fields : List (Nat × Nat × Nat)) (lo : Nat) (w : Word) (h : fieldsApart lo fields = true)
    (hw : w.toNat < 2 ^ lo) :
    ((fields.map fun x => field x.1 x.2.1 x.2.2).foldl (· ||| ·) w).toNat =
      w.toNat + (fields.map fun x => x.2.2 % 2 ^ x.2.1 * 2 ^ x.1).sum := by
  induction fields generalizing lo w with
  | nil => simp
  | cons x rest ih =>
    simp only [fieldsApart, Bool.and_eq_true, decide_eq_true_eq] at h
    obtain ⟨⟨h1, h2⟩, h3⟩ := h
    have hw' : w.toNat < 2 ^ x.1 := lt_of_lt_of_le hw (Nat.pow_le_pow_right (by decide) h1)
    have hsum := or_field_toNat w x.1 x.2.1 x.2.2 h2 hw'
    have hn : x.2.2 % 2 ^ x.2.1 + 1 ≤ 2 ^ x.2.1 := Nat.mod_lt _ (Nat.two_pow_pos _)
    have hb : (w ||| field x.1 x.2.1 x.2.2).toNat < 2 ^ (x.1 + x.2.1) := by
      rw [hsum, pow_add, Nat.mul_comm (2 ^ x.1)]
      calc w.toNat + x.2.2 % 2 ^ x.2.1 * 2 ^ x.1 < 2 ^ x.1 + x.2.2 % 2 ^ x.2.1 * 2 ^ x.1 := by omega
        _ = (x.2.2 % 2 ^ x.2.1 + 1) * 2 ^ x.1 := by rw [Nat.add_mul, Nat.one_mul, Nat.add_comm]
        _ ≤ 2 ^ x.2.1 * 2 ^ x.1 := Nat.mul_le_mul_right _ hn
    simp only [List.map_cons, List.foldl_cons, List.sum_cons]
    rw [ih _ _ h3 hb, hsum, Nat.add_assoc]

/-- A join of fields in rising order, none over another, is the word packed with them. -/
theorem join_eq_packed (fields : List (Nat × Nat × Nat)) (h : fieldsApart 0 fields = true) :
    join (fields.map fun x => field x.1 x.2.1 x.2.2) = packed fields := by
  have e := packed_acc fields 0 0 h (by simp)
  rw [show (0 : Word).toNat = 0 from rfl, Nat.zero_add] at e
  rw [packed, ← e, BitVec.ofNat_toNat, BitVec.setWidth_eq]
  rfl

end Sys2Proof.Machine
end

