-- ==== Sys2Proof/Tests/Slice0.lean ====
section
/-! SUPPORT. Small tests: ill-formed commands, the spec's worked values, and for every statement with hypotheses a
concrete state that meets them, clause by clause. -/

set_option Elab.async false

namespace Sys2Proof.Tests

open Sys2Proof.Machine

/-! ## Small states -/

def calm : Lines := { rdy := true, cd := false }

/-- The reset state with its part changed. -/
def having (f : Part → Part) : State := { State.reset with part := f State.reset.part }

/-- The part after commands, from a state. -/
def after (cs : List Instr) (s : State) : Part :=
  (cs.foldl (fun s c => match exec c s with
                        | .next t => t
                        | _ => s) s).part

def low : State := having fun p => { p with pins := { p.pins with resetN := false } }

def bytes : State := having fun p => { p with bus := { p.bus with straps := { p.bus.straps with data8 := true } } }

/-- A latched byte pair or high byte. -/
def latched (pair high : Option (Nat × Byte)) : State :=
  having fun p => { p with bus := { p.bus with straps := { p.bus.straps with data8 := true }
                                               bytePair := pair, readHigh := high } }

def read (sa : BitVec 20) : BusCycle := { sa := sa, write := false, data := 0 }

def write (sa : BitVec 20) : BusCycle := { sa := sa, write := true, data := 0xABCD }

def resident (u : Nat) (x : Seat) (roles : BitVec 6) : Record :=
  { present := true, unit := u, seat := x, station := 2, tier := 1, aid := false, roles := roles, onCall := true }

def settings (p : Part) (f : Settings → Settings) : Part :=
  { p with settings := { p.settings with staged := f p.settings.staged, active := f p.settings.active } }

/-- Station 2 as in the example of 6.13. -/
def station2 (s : Settings) : Settings :=
  { s with scanRun := true, configured := 0x04
           durations := ((s.durations.set 8 120).set 10 300).set 11 600 }

def staged (st : Staging) (p : Part) : Part := { p with bus := { p.bus with staging := st } }

def opening : Staging :=
  { Staging.initial with slot := 1, generation := 3, station := 2, priority := 2, startStage := 1
                         quotas := #v[1, 3, 0, 0, 0, 0], cap := 6, volunteer := 1, eta := 2 }

/-- The incident of the example of 6.13, in the state given. -/
def call (state : SlotState) (stage : Nat) (timer : Option Nat) (attendees : List Attendee) : Incident :=
  { Incident.initial with
    state := state, generation := 3, station := 2, priority := 2, openNumber := 1, durations := #v[120, 0, 300, 600]
    stage := stage, timer := timer, quotas := #v[1, 3, 0, 0, 0, 0], cap := 6
    tallies := #v[attendees.countP fun x => x.assignment = .role 0, attendees.countP fun x => x.assignment = .role 1,
                  0, 0, 0, 0]
    extras := attendees.countP fun x => x.assignment = .extra, attendees := attendees }

def crew : List Attendee :=
  [⟨10, .role 0, 1⟩, ⟨11, .role 1, 1⟩, ⟨12, .role 1, 2⟩, ⟨13, .role 1, 3⟩, ⟨14, .extra, 1⟩]

/-- A running link with units 1 (PRESENT) and 2 (SILENT), volunteers 1 and 2 at unit 1 and volunteer 3 at unit 2, an
incident in slot 1, and the staging words of `opening`. -/
def town (i : Incident) : State := having fun p =>
  let e := { UnitEntry.initial with stagedEnable := true }
  let seat (r : Record) : RosterEntry := { RosterEntry.initial with shadow := r }
  let standing (v : VolunteerIx) : Standing :=
    if i.attendees.any fun x => x.volunteer = v then
      { engagement := .attending 1, declined := Vector.replicate 4 false }
    else Standing.initial
  { settings p station2 with
    bus := { p.bus with staging := opening }
    roster := { p.roster with
      entries := ((p.roster.entries.set 0 (seat (resident 1 .a 3))).set 1 (seat (resident 1 .b 4))).set 2
        (seat (resident 2 .a 1)) }
    units := (p.units.set 0 { e with link := .present }).set 1 { e with link := .silent }
    scan := { p.scan with phase := .cycling, radio := .head [] 0 none }
    engine := { p.engine with
      incidents := p.engine.incidents.set 1 i
      age := [1]
      standing := Vector.ofFn standing } }

def engaged (v : VolunteerIx) (e : Engagement) (s : State) : State :=
  { s with part := { s.part with engine := { s.part.engine with
      standing := s.part.engine.standing.set v { s.part.engine.standing[v] with engagement := e } } } }

def onScan (f : Scan → Scan) (s : State) : State := { s with part := { s.part with scan := f s.part.scan } }

def onCheck (f : LinkCheck → LinkCheck) (s : State) : State := { s with part := { s.part with check := f s.part.check } }

def calling : State := town (call .calling 1 (some 120) [])

def manned : State := town (call .complete 3 none crew)

/-! ## Ill-formed commands are refused by the check -/

theorem test_wellFormed_refuses :
    (Instr.setupWrite 0x00 0).wellFormed = false ∧ (Instr.setupWrite 0x18 0).wellFormed = false ∧
    (Instr.boardRead 0x080).wellFormed = false ∧ (Instr.boardRead 0x8F8).wellFormed = false ∧
    (Instr.refusedUnknown 1).wellFormed = false ∧ (Instr.refusedUnknown 7).wellFormed = false ∧
    (Instr.boardWriteIgnored 0x02B 0).wellFormed = false ∧ (Instr.boardWriteIgnored 0x03F 0).wellFormed = false := by
  decide

theorem test_wellFormed_accepts :
    (Instr.setupWrite 0x01 0).wellFormed = true ∧ (Instr.boardRead 0x081).wellFormed = true ∧
    (Instr.refusedUnknown 0).wellFormed = true ∧ (Instr.refusedUnknown 8).wellFormed = true ∧
    (Instr.boardWriteIgnored 0x02C 0).wellFormed = true := by decide

/-! ## Worked values of the spec -/

/-- 11.4: the seat message word, the check word, and that a frame with its check word checks to 0. -/
theorem test_worked_frames :
    ({ SeatState.initial with toggle := true
                              current := some ⟨.alert { slot := 0, generation := 6, station := 2, priority := 3 }, false⟩ }
      : SeatState).packetWord = 0x6985 ∧
    checkWord [0] = 0x1D0F ∧ checkWord [0, 0x1D0F] = 0 := by decide +kernel

/-- R2 and 11.4: the regions of the two examples, and the byte addresses of the action word and of unit 1's block. -/
theorem test_worked_addresses :
    let wide : Straps := { addr20 := true, data8 := false, base := 5 }
    let narrow : Straps := { addr20 := false, data8 := true, base := 3 }
    classify wide (write 0x13FFF) = .plain ∧ classify wide (write 0x14000) = .forwarded 0 ∧
    classify wide (write 0x15000) = .forwarded 0x1000 ∧ classify wide (write 0x18000) = .plain ∧
    classify narrow (write 0xA000) = .forwarded 0x1000 ∧ classify narrow (read 0xC00E) = .boardRead 0x2007 ∧
    classify narrow (write 0xC00F) = .boardWrite 0x2007 ∧ classify narrow (read 0xC801) = .boardRead 0x2400 ∧
    2 * offsetAddress narrow 0x2007 = 0xC00E := by decide +kernel

/-- Control words of a link with no incident, and with one CALLING incident of station 2 in an even cycle (R77). -/
theorem test_worked_control_words :
    State.reset.part.controlWord = 0xFF00 ∧ calling.part.controlWord = 0xB946 := by decide +kernel

/-- 6.13: the stages of the example, from an OPEN, by three expiries. -/
theorem test_worked_stages :
    let shown (p : Part) := (p.engine.incidents[0].state, p.engine.incidents[0].stage, p.engine.incidents[0].timer)
    let s := having fun p => staged opening (settings p station2)
    let opened : State := { s with part := after [.openIncident calm] s }
    let due (n : Nat) (p : Part) : State :=
      { s with part := p.setIncident 0 { p.engine.incidents[0] with timer := some n } }
    let second := after [.timerSecond 0, .stageTimerExpiry 0 calm] (due 1 opened.part)
    let third := after [.stageTimerExpiry 0 calm] (due 0 second)
    shown opened.part = (.calling, 1, some 120) ∧ shown second = (.calling, 3, some 300) ∧
      shown third = (.calling, 4, some 600) ∧ shown (after [.stageTimerExpiry 0 calm] (due 0 third)) = (.short, 4, none) := by
  decide +kernel

/-- 6.13: the two AMENDs of the example. -/
theorem test_worked_amend :
    let asked (cap : BitVec 6) : State :=
      { manned with part := staged { opening with quotas := #v[1, 3, 2, 0, 0, 0], cap := cap } manned.part }
    let seen (p : Part) := (p.bus.result.code, p.engine.incidents[1].state, p.engine.incidents[1].timer)
    seen (after [.amend calm] (asked 6)) = (.refusedInvalid, .complete, none) ∧
      seen (after [.amend calm] (asked 7)) = (.done, .calling, some 300) := by decide +kernel

/-- 8.8: the partial clear and the re-pulse, with the latches set by hand. -/
theorem test_worked_repulse :
    let s := having fun p => { p with notify := { p.notify with a := { enables := 0xC5, status := 0x85, repulse := false } } }
    let seen (p : Part) := (p.notify.a.status, p.noteActive .a)
    let cleared : State := { s with part := after [.notifyClear .a 0x05 calm] s }
    let stale : State := { s with part := cleared.part.report .staleEvent }
    let done : State := { s with part := after [.repulseTimerExpiry .a] stale }
    let empty : State := { s with part := after [.notifyClear .a 0xC0 calm] done }
    seen s.part = (0x85, true) ∧ seen cleared.part = (0x80, false) ∧ seen stale.part = (0xC0, false) ∧
      seen done.part = (0xC0, true) ∧ seen empty.part = (0, false) ∧
      seen (empty.part.report .declineTaken) = (0, false) := by decide +kernel

/-- 11.2: the action and result words after a request, and the enable words of an unknown line, read on the board. -/
theorem test_worked_board_words :
    let s : State := { State.reset with part := after [.refusedUnknown 9] State.reset }
    (after [.boardRead 0x007] s).bus.view.answer = 9 ∧ (after [.boardRead 0x030] s).bus.view.answer = 1 ∧
      (after [.boardCapture (.unit 0), .boardRead 0x404] s).bus.capture.isSome = true := by decide +kernel

/-! ## Hypotheses that a state meets: the memory path

Each theorem is named after its statement, and shows for its clauses, at the ends of their ranges, a state and operands
that meet the hypotheses. The hypotheses `resetN = true` and `Memory.wf` hold of `State.reset`. -/

theorem test_reset_is_out_of_reset : State.reset.part.pins.resetN = true ∧ Memory.wf State.reset.part.mem = true ∧
    bytes.part.pins.resetN = true ∧ bytes.part.bus.straps.data8 = true ∧ low.part.pins.resetN = false := by decide +kernel

theorem test_witness_StepTakesFrontCommand :
    ({ State.reset with pending := [.cdFall, .packetEnd] } : State).pending = .cdFall :: [.packetEnd] ∧
    State.reset.pending = [] := by decide

theorem test_witness_PlainCyclePasses :
    classify State.reset.part.bus.straps (write 0x4000) = .plain ∧ classify State.reset.part.bus.straps (read 0x00FF) = .plain ∧
    classify bytes.part.bus.straps (write 0x8000) = .plain ∧ classify bytes.part.bus.straps (read 0x01FF) = .plain := by
  decide +kernel

/-- Both sides of every boundary of R3's table, in a region that does not begin at 0. -/
theorem test_witness_CycleClassFollowsRegion :
    let st : Straps := { addr20 := true, data8 := false, base := 1 }
    let at' (c : BitVec 20 → BusCycle) (off : Nat) : CycleClass := classify st (c (BitVec.ofNat 20 (0x4000 + off)))
    classify st (write 0x3FFF) = .plain ∧ classify st (write 0x8000) = .plain ∧
    (∀ off ∈ [0, 0x00FF, 0x0800, 0x0BBF, 0x1000, 0x113F], at' write off = .forwarded off ∧ at' read off = .plain) ∧
    (∀ off ∈ [0x2000, 0x2FFF], at' write off = .boardWrite off ∧ at' read off = .boardRead off) ∧
    ∀ off ∈ [0x0100, 0x07FF, 0x0BC0, 0x0FFF, 0x1140, 0x1FFF, 0x3000, 0x3FFF], at' write off = .plain ∧
      at' read off = .plain := by decide +kernel

theorem test_witness_ResetLowKeepsPartOut :
    wordOfCommand (.setupWrite 0xFF 1) = some (0x00FF, 1) ∧ wordOfCommand (.openIncident calm) = some (0x2007, 1) ∧
    low.part.bus.straps.data8 = false ∧ Memory.wf low.part.mem = true ∧
    (let narrow : Part := { bytes.part with pins := { bytes.part.pins with resetN := false } }
     narrow.pins.resetN = false ∧ narrow.bus.straps.data8 = true ∧ Memory.wf narrow.mem = true) := by decide +kernel

theorem test_witness_ByteReadsPaired :
    (latched none (some (0x2FFF, 7))).part.bus.readHigh = some (0x2000 + (0xFFF : Fin 4096).val, 7) ∧
    ∀ x, bytes.part.bus.readHigh ≠ some (0x2000 + (0 : Fin 4096).val, x) := by decide +kernel

theorem test_witness_LowByteHeld :
    (∀ off ∈ [0, 0x00FF, 0x0800, 0x0BBF, 0x1000, 0x113F], (windowOf off).forwarded = true) ∧
    windowOf 0x2000 = .board ∧ windowOf 0x2FFF = .board ∧
    ∀ off ∈ [0x0100, 0x1140, 0x3FFF], windowOf off = .elsewhere := by decide +kernel

theorem test_witness_HighByteCompletesWord :
    (latched (some (0x113F, 7)) none).part.bus.bytePair = some ((0x113F : Fin 16384).val, 7) ∧
    (∀ lo, (latched (some (0x113E, 7)) none).part.bus.bytePair ≠ some ((0x113F : Fin 16384).val, lo)) ∧
    (latched (some (0x2007, 7)) none).part.bus.bytePair = some ((0x2007 : Fin 16384).val, 7) ∧
    ∀ lo, bytes.part.bus.bytePair ≠ some ((0x2007 : Fin 16384).val, lo) := by decide +kernel

def holding : State := onScan (fun x =>
  { x with phase := .holding, radio := .quiet, guardTimer := some { seconds := 10, scaled := false } }) calling

theorem test_witness_RequestRecorded :
    wordOfCommand (.openIncident calm) = some (0x2007, 1) ∧ wordOfCommand (.engineClear calm) = some (0x2007, 7) ∧
    wordOfCommand (.refusedUnknown 8) = some (0x2007, 8) ∧ (Instr.refusedUnknown 8).wellFormed = true ∧
    (holding.part.scan.phase = .holding → holding.part.scan.guardTimer ≠ none) := by decide +kernel

theorem test_witness_IgnoredBoardWriteChangesNothing :
    boardWordTakesWrites 0x008 = false ∧ boardWordTakesWrites 0x02A = false ∧ boardWordTakesWrites 0x039 = false ∧
    boardWordTakesWrites 0xFFF = false := by decide

theorem test_witness_ResetEdges :
    let st := State.reset.part.bus.straps
    classify st (write 0x2000) = .boardWrite 0x2000 ∧ classify st (read 0x2FFF) = .boardRead 0x2FFF ∧
    classify st (read 0x0000) = .plain ∧ classify st (write 0x0000) = .forwarded 0 := by decide +kernel

theorem test_witness_ResetEdges_cycle : ∃ t, exec (.plainCycle (write 0x2000)) low = .next t := ⟨_, rfl⟩

theorem test_witness_justReset (pins : Straps) : State.reset.part.justReset ∧
    ∃ p, exec (.deviceReset pins none) State.reset = .next { State.reset with part := p } ∧ p.justReset :=
  ⟨.inl rfl, _, rfl, .inr ⟨State.reset, pins, none, .inl ⟨rfl, rfl⟩⟩⟩

/-! ## Settings, roster, units -/

theorem test_witness_SettingWordJudged :
    settingRow 0x0D = none ∧ settingRow 0xFF = none ∧ settingRow 0x01 = some (0, 3, 0xFFFF, true) ∧
    settingRow 0x04 = some (1, 7, 0xFFFF, true) ∧ settingRow 0x6F = some (0, 3600, 0xFFFF, false) ∧
    settingRow 0x70 = some (0, 65535, 0x0001, false) := by decide

def waiting : State := onScan (fun x => { x with phase := .retryWait .notReady, radio := .quiet, retryTimer := true })
  (town Incident.initial)

theorem test_witness_ScanRunOn :
    State.reset.part.settings.active.scanRun = false ∧ calling.part.settings.active.scanRun = true := by decide +kernel

theorem test_witness_ScanRunOff :
    calling.part.engine.incidents[1].state ≠ .free ∧
    (∀ k : Slot, State.reset.part.engine.incidents[k].state = .free) ∧ State.reset.part.scan.phase = .stopped ∧
    (∀ k : Slot, waiting.part.engine.incidents[k].state = .free) ∧ waiting.part.scan.phase = .retryWait .notReady ∧
    (town Incident.initial).part.scan.phase = .cycling := by decide +kernel

theorem test_witness_TestEnablesJudged :
    ((3 : Word).getLsbD 0 = true ∧ (3 : Word).getLsbD 1 = true) ∧ ((1 : Word).getLsbD 0 ≠ (1 : Word).getLsbD 1) ∧
    ((4 : Word).getLsbD 0 = false ∧ (4 : Word).getLsbD 1 = false) := by decide

/-- One volunteer at each boundary of R33's conditions, and an engaged and a FREE volunteer. -/
theorem test_witness_CommitJudged :
    let s := engaged 1 (.offered 1) calling
    let r (unit station tier : Nat) (roles : BitVec 6) : Record :=
      { resident unit .a roles with station := station, tier := tier }
    recordOf 0x00A0 0x0017 1 3 = r 160 7 1 1 ∧ recordOf 0x00A1 0x0017 1 3 = r 161 7 1 1 ∧
    recordOf 0x0000 0x0017 1 3 = r 0 7 1 1 ∧ recordOf 0x00A0 0x0018 1 3 = r 160 8 1 1 ∧
    recordOf 0x00A0 0x0007 1 3 = r 160 7 0 1 ∧ recordOf 0x00A0 0x0017 0 3 = r 160 7 1 0 ∧
    s.part.roster.entries[0].shadow = resident 1 .a 3 ∧ s.part.engagement 1 ≠ .free ∧ s.part.engagement 0 = .free ∧
    s.part.scan.phase ≠ .holding := by decide +kernel

/-- Every clause of the layouts with a hypothesis, and both ends of each stretch of the board that is not assigned. -/
theorem test_witness_FieldLayouts :
    let x (m : Message) : SeatState := { SeatState.initial with current := some ⟨m, false⟩ }
    let shown (u : UnitIx) (k : SlotKind) : Part :=
      { calling.part with scan := { calling.part.scan with slotShown := some (u, k) } }
    SeatState.initial.current = none ∧ (x .standDown).current = some ⟨.standDown, false⟩ ∧
    (x (.alert { slot := 3, generation := 15, station := 7, priority := 3 })).packetWord = 0x7FF1 ∧
    State.reset.part.bus.result.assigned = none ∧
    (after [.openIncident calm] calling).bus.result.assigned = some (0, 1) ∧ calling.part.scan.slotShown = none ∧
    (shown 159 .regular).scan.slotShown = some (159, .regular) ∧
    (shown 0 .urgent).scan.slotShown = some (0, .urgent) ∧
    manned.part.engine.incidents[1].timer = none ∧ calling.part.engine.incidents[1].timer = some 120 ∧
    0 ∉ calling.part.engine.age ∧ calling.part.engine.age = [] ++ (1 : Slot) :: [] ∧
    manned.part.engine.incidents[1].attendees[4]? = some ⟨14, .extra, 1⟩ ∧
    manned.part.engine.incidents[1].attendees[5]? = none ∧
    calling.part.engagement 0 = .free ∧ (engaged 0 (.offered 3) calling).part.engagement 0 = .offered 3 ∧
    manned.part.engagement 14 = .attending 1 ∧
    manned.part.engine.incidents[1].attendees = crew.take 4 ++ ⟨14, .extra, 1⟩ :: [] ∧
    (∀ y ∈ crew.take 4, y.volunteer ≠ 14) ∧ manned.part.engagement 10 = .attending 1 := by decide +kernel

theorem test_witness_FieldLayouts_assigned :
    (∀ k ∈ [0x006, 0x008, 0x00F, 0x012, 0x01F, 0x02E, 0x02F, 0x039, 0x03B, 0x040, 0x07F, 0x180, 0x1FF, 0x3E0, 0x3FF,
            0x900, 0xFFF], ¬boardAssigned k) ∧
    ∀ k ∈ [0x005, 0x007, 0x011, 0x020, 0x02D, 0x030, 0x038, 0x03C, 0x03F, 0x080, 0x17F, 0x200, 0x3DF, 0x400, 0x8FF],
      boardAssigned k := by
  unfold boardAssigned
  decide

/-- 11.2: the board after a device reset, and live words of an incident, a volunteer and a unit worked by hand. -/
theorem test_worked_layouts :
    (State.reset.part.liveWord 0x020 = 0x0000 ∧ State.reset.part.liveWord 0x025 = 0x0001 ∧
      State.reset.part.liveWord 0x404 = 0xC0C0 ∧ State.reset.part.liveWord 0x400 = 0 ∧
      State.reset.part.liveWord 0x027 = 0) ∧
    calling.part.liveWord 0x0C0 = 0xA385 ∧ manned.part.liveWord 0x0CE = 0x1426 ∧
    manned.part.liveWord (0x0C0 + 33) = 0x110B ∧ calling.part.liveWord 0x027 = 0x0111 ∧
    calling.part.liveWord 0x200 = 0x8E01 ∧ manned.part.liveWord 0x215 = 0x0351 ∧
    (engaged 0 (.offered 1) calling).part.liveWord 0x201 = 0x0318 ∧ calling.part.liveWord 0x408 = 0x000F := by
  decide +kernel

/-- A pending record whose seat another volunteer holds, and one whose seat is free. -/
theorem test_witness_PendingRecordAtRelease :
    let p (r : Record) : Part :=
      { calling.part with roster := { calling.part.roster with
          entries := calling.part.roster.entries.set 1 { calling.part.roster.entries[1] with pendingRecord := some r } } }
    calling.part.roster.entries[1].pendingRecord = none ∧
    (p (resident 1 .a 1)).roster.entries[1].pendingRecord = some (resident 1 .a 1) ∧
    (p (resident 1 .a 1)).roster.entries[0].shadow.present = true ∧
    (p (resident 1 .a 1)).roster.entries[0].shadow.unit = 1 ∧ (p (resident 1 .a 1)).roster.entries[0].shadow.seat = .a ∧
    ∀ x : VolunteerIx, ¬(x ≠ 1 ∧ (p (resident 9 .b 1)).roster.entries[x].shadow.present = true ∧
      (p (resident 9 .b 1)).roster.entries[x].shadow.unit = 9 ∧
      (p (resident 9 .b 1)).roster.entries[x].shadow.seat = .b) := by decide +kernel

/-- Unit 1's entry changed, with unit 2 waiting on the urgent list where asked. -/
def unitOne (f : UnitEntry → UnitEntry) (s : State) : State :=
  { s with part := { s.part with units := s.part.units.set 0 (f s.part.units[0]) } }

def echoing : State := onScan (fun x => { x with urgent := [0] }) (unitOne (fun e => { e with echo := true }) calling)

theorem test_witness_urgentLaw : calling.part.urgentLaw ∧ echoing.part.urgentLaw := by
  unfold Part.urgentLaw
  decide +kernel

theorem test_witness_EnableTaken :
    let off := unitOne (fun e => { e with stagedEnable := false }) echoing
    (echoing.part.units[0]).law ∧ (off.part.units[0]).law ∧
    echoing.part.units[0].stagedEnable = decide (echoing.part.units[0].link ≠ .disabled) ∧
    (let s := unitOne (fun _ => { UnitEntry.initial with stagedEnable := true }) calling
     s.part.units[0].stagedEnable = true ∧ s.part.units[0].link = .disabled) ∧
    off.part.units[0].stagedEnable = false ∧ off.part.units[0].link ≠ .disabled ∧
    off.part.offeredAt 0 = [] ∧ (engaged 0 (.offered 1) off).part.offeredAt 0 = [0] := by
  unfold UnitEntry.law
  decide +kernel

/-- The four courses of a unit against the list: stays, joins, stays away, leaves. -/
theorem test_witness_UrgentListFollowsUnit :
    0 ∈ echoing.part.scan.urgent ∧ (0 : UnitIx) ∉ calling.part.scan.urgent ∧
    echoing.part.scan.urgent = [] ++ (0 : UnitIx) :: [] ∧ calling.part.units[0].link ≠ .disabled ∧
    calling.part.units[0].echo = false ∧ echoing.part.units[0].echo = true := by decide +kernel

theorem test_witness_InquiryWritten :
    ((0 : Word).setWidth 4 : BitVec 4) = 0 ∧ 5 < ((6 : Word).setWidth 4 : BitVec 4).toNat ∧
    5 < ((0xFFFF : Word).setWidth 4 : BitVec 4).toNat ∧ ((0xFFF5 : Word).setWidth 4 : BitVec 4).toNat = 5 ∧
    ((0x0011 : Word).setWidth 4 : BitVec 4).toNat = 1 := by decide

theorem test_witness_MessageSet :
    State.reset.part.units[0].link = .disabled ∧ calling.part.units[0].link ≠ .disabled := by decide +kernel

/-! ## The scan -/

def inWindow (h : Heard) : State :=
  onScan (fun x => { x with radio := .window 100 h, slotShown := some (0, .regular) }) calling

def reply (address event : Word) : Reply :=
  { addressStatus := address, eventA := event, eventB := 0, result1 := 0, result2 := 0
    check := checkWord [address, event, 0, 0, 0] }

theorem test_witness_SlotOutcome :
    (inWindow .started).part.scan.radio = .window 100 .started ∧
    (inWindow .corrupt).part.scan.radio = .window 100 .corrupt ∧
    (inWindow .started).part.scan.slotShown = some (0, .regular) ∧ replyChecks (reply 0x0001 0) = true ∧
    (reply 0x0001 0).addressStatus.toNat % 256 = 1 ∧ replyChecks (reply 0x0002 0) = true ∧
    replyChecks { reply 0x0001 0 with check := 0 } = false := by decide +kernel

/-- Unit 1 answers with a watched change, unit 2 returns from SILENT. -/
theorem test_witness_GoodReplySteps :
    let e := (unitOne (fun e => { e with watch := 1 }) calling).part.units[0]
    e.link ≠ .disabled ∧ (e.flags ^^^ 1) &&& e.watch ≠ 0 ∧ (e.flags ^^^ 2) &&& e.watch = 0 ∧
    calling.part.units[1].link = .silent := by decide +kernel

theorem test_witness_MissSteps :
    let e (n : Nat) := (unitOne (fun e => { e with misses := n }) calling).part.units[0]
    (e 2).link = .present ∧ calling.part.settings.active.silentThreshold = 3 ∧ (e 2).misses + 1 = 3 ∧
    (e 1).misses + 1 < 3 := by decide +kernel

/-- The roster of `calling` keeps the roster law. -/
theorem test_calling_roster_law : calling.part.roster.law := by
  have present : ∀ v : VolunteerIx, calling.part.roster.entries[v].shadow.present = true → v = 0 ∨ v = 1 ∨ v = 2 := by
    decide +kernel
  have valid : ∀ v : VolunteerIx, calling.part.roster.entries[v].shadow.valid := by
    unfold Record.valid
    decide +kernel
  have absent : ∀ v : VolunteerIx, calling.part.roster.entries[v].shadow.present = false →
      calling.part.roster.entries[v].shadow = Record.absent := by decide +kernel
  have empty : ∀ v : VolunteerIx, calling.part.roster.entries[v].pendingRecord = none := by decide +kernel
  have apart : ∀ v ∈ [(0 : VolunteerIx), 1, 2], ∀ w ∈ [(0 : VolunteerIx), 1, 2], v ≠ w →
      ¬(calling.part.roster.entries[v].shadow.unit = calling.part.roster.entries[w].shadow.unit ∧
        calling.part.roster.entries[v].shadow.seat = calling.part.roster.entries[w].shadow.seat) := by decide +kernel
  refine ⟨fun v => ⟨valid v, absent v, fun x h => ?_⟩, fun v w h hv hw => ?_⟩
  · rw [empty v] at h
    cases h
  · exact apart v (by simpa using present v hv) w (by simpa using present w hw) h

/-- Codes 0, 5 and 7; a repeat; an accepted event of a seat that volunteer 1 holds, and of one that nobody holds. -/
theorem test_witness_SeatEventJudged :
    let s := unitOne (fun e => { e with seatA := { e.seatA with lastEvent := some true } }) calling
    (0x0008 : Word).toNat % 8 = 0 ∧ (0x000D : Word).toNat % 8 = 5 ∧ (0x000F : Word).toNat % 8 = 7 ∧
    (0x0009 : Word).toNat % 8 = 1 ∧ s.part.units[0].seatA.lastEvent = some ((0x0009 : Word).getLsbD 3) ∧
    (0x0004 : Word).toNat % 8 = 4 ∧ s.part.units[0].seatA.lastEvent ≠ some ((0x0004 : Word).getLsbD 3) ∧
    ((s.part.shadow 0).present = true ∧ (s.part.shadow 0).unit = 1 ∧ (s.part.shadow 0).seat = .a) ∧
    ∀ v : VolunteerIx, (s.part.shadow v).present = true → (s.part.shadow v).unit = 2 → (s.part.shadow v).seat ≠ .b := by
  decide +kernel

/-- Attempts with no enabled unit, with RDY not ready, over a carrier, and free to start. -/
theorem test_witness_AttemptMade :
    let s (rdy cd : Bool) : Part := { waiting.part with pins := { waiting.part.pins with rdy := rdy, cd := cd } }
    State.reset.part.attempt.scan.phase = .retryWait .noUnits ∧ (s false false).attempt.scan.phase = .retryWait .notReady ∧
    (s true true).attempt.scan.phase = .channelWait ∧ (s true false).attempt.scan.phase = .cycling := by decide +kernel

/-- A rise of "any incident CALLING" triggers a head, an unchanged word does not (5.12). -/
theorem test_witness_HeadsSent :
    let last := onScan (fun x => { x with lastHead := calling.part.controlWord }) calling
    (calling.part.controlWord.getLsbD 1 = true ∧ calling.part.scan.lastHead.getLsbD 1 = false ∧
      calling.part.settings.active.link.rising.getLsbD 1 = true) ∧
    last.part.controlWord = last.part.scan.lastHead := by decide +kernel

theorem test_witness_WaitsEnd :
    let channel := onScan (fun x => { x with phase := .channelWait, radio := .quiet, lbtTimer := some 1 }) calling
    waiting.part.scan.retryTimer = true ∧ channel.part.scan.lbtTimer ≠ none ∧ holding.part.scan.guardTimer ≠ none ∧
    holding.part.scan.phase = .holding ∧ holding.part.endHold.scan.guardTimer = none ∧
    holding.part.endHold.scan.phase = .holding ∧ calling.part.scan.phase ≠ .holding := by decide +kernel

theorem test_witness_FrameHeadEnded :
    let s := onScan (fun x => { x with radio := .head [0x7E81] 0xFF00 (some (159, .urgent)) }) calling
    calling.part.scan.radio = .head [] 0 none ∧ s.part.scan.radio = .head [0x7E81] 0xFF00 (some (159, .urgent)) := by
  decide +kernel

theorem test_witness_SlotTimes :
    let s (r : Radio) := onScan (fun x => { x with radio := r }) calling
    (s (.packet [1])).part.scan.radio = .packet [1] ∧ (s .turnaround).part.scan.radio = .turnaround ∧
    calling.part.settings.active.link.rate ≤ 3 ∧ (inWindow .nothing).part.scan.radio = .window 100 .nothing := by
  decide +kernel

/-- An urgent choice, a regular one (unit 1, the first member), and a cycle at its end. -/
theorem test_witness_SlotChosen :
    let had := onScan (fun x => { x with hadUrgent := x.hadUrgent.set 0 true }) echoing
    let spent := onScan (fun x => { x with hadSlot := Vector.replicate 160 true }) calling
    (echoing.part.scan.urgent = [] ++ (0 : UnitIx) :: [] ∧ echoing.part.scan.hadUrgent[0] = false) ∧
    (∀ u ∈ had.part.scan.urgent, had.part.scan.hadUrgent[u] = true) ∧
    (calling.part.scan.passPos ≤ 0 ∧ calling.part.units[0].link ≠ .disabled ∧ calling.part.scan.hadSlot[0] = false) ∧
    spent.part.scan.urgent = [] ∧ ∀ u : UnitIx, ¬(spent.part.scan.passPos ≤ u ∧ spent.part.units[u].link ≠ .disabled ∧
      spent.part.scan.hadSlot[u] = false) := by decide +kernel

/-- A stop pending with no open incident and with one, a hold entered, and none. -/
theorem test_witness_CycleEnded :
    let stop (s : State) : State := { s with part := { s.part with settings := { s.part.settings with
      staged := { s.part.settings.staged with scanRun := false } } } }
    let held : Part :=
      { settings manned.part fun s => { s with link := { s.link with holdEnable := true } } with
        notify := { manned.part.notify with b := { enables := 0x08, status := 0, repulse := false } }
        scan := { manned.part.scan with changeSeen := true } }
    (stop (town Incident.initial)).part.endCycle.scan.phase = .stopped ∧
    (stop manned).part.endCycle.settings.error.kind = .stopRefused ∧ held.endCycle.scan.phase = .holding ∧
    manned.part.endCycle.scan.phase = .cycling := by decide +kernel

/-! ## Incidents and offers -/

/-- The four outcomes of an OPEN. -/
theorem test_witness_OpenJudged :
    let open' (p : Part) : ResultCode := (after [.openIncident calm] { calling with part := p }).bus.result.code
    let bad (st : Staging) : ResultCode := open' (staged st calling.part)
    open' (staged opening State.reset.part) = .refusedLinkStopped ∧
    bad { opening with station := 8 } = .refusedInvalid ∧ bad { opening with priority := 4 } = .refusedInvalid ∧
    bad { opening with startStage := 5 } = .refusedInvalid ∧ bad { opening with cap := 32 } = .refusedInvalid ∧
    bad { opening with cap := 3 } = .refusedInvalid ∧ open' calling.part = .done ∧
    open' { calling.part with engine := { calling.part.engine with
      incidents := Vector.replicate 4 (call .calling 1 (some 1) []) } } = .refusedFull := by decide +kernel

/-- The staging words name the incident of slot 1, or none; the incident as each clause of an AMEND needs it. -/
theorem test_witness_AmendJudged :
    (calling.part.stagingNames 1 ∧ manned.part.stagingNames 1 ∧ ∀ k, ¬State.reset.part.stagingNames k) ∧
    (∀ r : RoleIx, (opening.quotas.map BitVec.toNat)[r] ≤ manned.part.engine.incidents[1].tallies[r]) ∧
    ¬(∀ r : RoleIx, (opening.quotas.map BitVec.toNat)[r] ≤ calling.part.engine.incidents[1].tallies[r]) ∧
    (after [.amend calm] { manned with part := staged { opening with cap := 4 } manned.part }).bus.result.code =
      .refusedInvalid := by
  unfold Part.stagingNames
  decide +kernel

/-- CLOSE and ENGINE-CLEAR with nobody engaged and with somebody; a CLOSE that frees nobody gives no cause and runs no
round (R126), so the counts out of reach stand. -/
theorem test_witness_IncidentsClosed :
    let counted : State := { calling with part := { calling.part with engine := { calling.part.engine with
      incidents := calling.part.engine.incidents.set 3
        { call .calling 1 (some 1) [] with priority := 3, unreachable := 7 }
      age := [3, 1] } } }
    let unreachable (s : State) : Nat := (after [.closeIncident calm] s).engine.incidents[3].unreachable
    (calling.part.stagingNames 1 ∧ counted.part.stagingNames 1 ∧ ∀ k, ¬State.reset.part.stagingNames k) ∧
    calling.part.engagedWith 1 = [] ∧ (engaged 0 (.offered 1) counted).part.engagedWith 1 = [0] ∧
    manned.part.engagedWith 1 = [10, 11, 12, 13, 14] ∧ calling.part.engagedAny = [] ∧
    unreachable counted = 7 ∧ unreachable (engaged 0 (.offered 1) counted) = 1 := by
  unfold Part.stagingNames
  decide +kernel

/-- Timers at 0 and above, a later used stage and none. -/
theorem test_witness_StagesAdvance :
    let due := town (call .calling 4 (some 0) [])
    let later (s : State) (j : Nat) : Prop := s.part.engine.incidents[1].stage < j ∧ j ≤ 4 ∧
      s.part.engine.incidents[1].durations[j - 1]?.getD 0 ≠ 0
    (due.part.engine.incidents[1].state = .calling ∧ due.part.engine.incidents[1].timer = some 0) ∧
    calling.part.engine.incidents[1].timer = some (119 + 1) ∧ later calling 3 ∧ ¬later calling 2 ∧
    (∀ j ≤ 4, ¬later due j) ∧ manned.part.engine.incidents[1].state ≠ .calling := by decide +kernel

/-- A role, EXTRA and a turn-back; an admission that completes the crew, and one that does not. -/
theorem test_witness_AdmissionMade :
    let i := calling.part.engine.incidents[1]
    let full : Incident := { manned.part.engine.incidents[1] with cap := 5 }
    i.assignment 0b000011 = some (.role 1) ∧ i.assignment 0b000001 = some (.role 0) ∧
    i.assignment 0b000100 = some .extra ∧ full.assignment 0b000001 = none ∧
    (let short := call .short 4 none (crew.drop 1)
     short.tallies[0] + 1 = short.quotas[0] ∧ short.tallies[1] = short.quotas[1]) ∧
    i.tallies[0] + 1 = i.quotas[0] ∧ i.tallies[1] < i.quotas[1] := by decide +kernel

/-- Engagements and references for each row of the tables of R137, R141 and R143. -/
theorem test_witness_PressesJudged :
    let named (s : State) (k : Slot) (g : BitVec 4) : Prop :=
      s.part.engine.incidents[k].state ≠ .free ∧ s.part.engine.incidents[k].generation = g
    named calling 1 3 ∧ ¬named calling 1 2 ∧ ¬named calling 0 0 ∧
    (engaged 0 (.offered 1) calling).part.engagement 0 = .offered 1 ∧ manned.part.engagement 10 = .attending 1 ∧
    calling.part.engagement 0 = .free ∧ calling.part.engine.standing[0].declined[1] = false ∧
    manned.part.engine.incidents[1].assignment (calling.part.shadow 1).roles = some .extra ∧
    ({ manned.part.engine.incidents[1] with cap := 5 } : Incident).assignment (calling.part.shadow 1).roles = none := by
  decide +kernel

theorem test_witness_ManualAttendJudged :
    opening.volunteer.toNat = (0 : VolunteerIx).val + 1 ∧ opening.eta.toNat = 2 ∧
    (calling.part.shadow 0).present = true ∧ (calling.part.shadow 239).present = false ∧
    (∀ x, calling.part.engagement 0 ≠ .attending x) ∧
    (engaged 0 (.attending 0) calling).part.engagement 0 = .attending 0 ∧
    ({ opening with volunteer := 241 } : Staging).volunteer.toNat = 241 := by decide +kernel

/-- An attendee with a role in a COMPLETE incident, and the EXTRA. -/
theorem test_witness_ReleaseJudged :
    manned.part.engine.incidents[1].attendees = [] ++ ⟨10, .role 0, 1⟩ :: crew.drop 1 ∧
    manned.part.engine.incidents[1].attendees = crew.take 4 ++ ⟨14, .extra, 1⟩ :: [] ∧
    (∀ y ∈ crew.take 4, y.volunteer ≠ 14) ∧ manned.part.engine.incidents[1].state = .complete ∧
    ({ opening with volunteer := 0 } : Staging).volunteer.toNat = 0 ∧ manned.part.engagement 0 = .free := by
  decide +kernel

/-- Volunteer 1 is callable and reachable, volunteer 3 callable and not reachable, and the incident of slot 1 is the
winner; against an offer of a lower priority too. -/
theorem test_witness_RoundJudges :
    let rival : State := { calling with part := { calling.part with engine := { calling.part.engine with
      incidents := calling.part.engine.incidents.set 3 { call .calling 1 (some 1) [] with priority := 3 }
      age := [3, 1] } } }
    calling.part.callable 0 = true ∧ calling.part.callable 2 = true ∧ calling.part.units[1].link = .silent ∧
    calling.part.callable 9 = false ∧
    calling.part.engine.age = [] ++ (1 : Slot) :: [] ∧ rival.part.engine.age = [3] ++ (1 : Slot) :: [] ∧
    (calling.part.judgeVolunteer 0).engagement 0 = .offered 1 ∧
    ((engaged 0 (.offered 3) rival).part.judgeVolunteer 0).engagement 0 = .offered 1 ∧
    ((engaged 0 (.offered 1) rival).part.judgeVolunteer 0).engagement 0 = .offered 1 ∧
    (calling.part.judgeVolunteer 2).engine.incidents[1].unreachable = 1 := by decide +kernel

theorem test_witness_ageLaw : calling.part.engine.ageLaw := by
  unfold Engine.ageLaw
  decide +kernel

/-! ## Notification and the link tests -/

theorem test_witness_NotifyLines :
    (Source.attendTaken, NoteLine.a, 0) ∈ sourceTable ∧ (Source.settingError, NoteLine.b, 7) ∈ sourceTable ∧
    (let p : Part := { holding.part with notify := { holding.part.notify with
        b := { enables := 0x08, status := 0x08, repulse := false } } }
     p.notify.b.status.getLsbD 3 = true ∧ (0x0008 : Word).getLsbD 3 = true) ∧
    holding.part.scan.guardTimer ≠ none := by decide +kernel

def testing (k : TestKind) (t : TestPhase) : State := onCheck (fun c => { c with test := t, kind := some k })
  (having fun p => settings p fun s =>
    { s with tests := { pattern := k = .pattern, prbs := k = .prbs }, link := { s.link with patternMarks := 0x8000 } })

theorem test_witness_TestBurstsBegin :
    (testing .prbs (.sending [])).part.check.test.inFlight = true ∧
    (testing .prbs .retryWait).part.check.test = .retryWait ∧ (testing .prbs .retryWait).part.check.test.inFlight = false ∧
    (testing .pattern (.channelWait 50)).part.check.test = .channelWait 50 ∧
    (testing .pattern .idle).part.settings.active.tests = { pattern := true, prbs := false } ∧
    State.reset.part.settings.active.tests.pattern = State.reset.part.settings.active.tests.prbs := by decide +kernel

/-- The places of a listen at its first and last word, the first and last group, and a first mark at its last word. -/
theorem test_witness_TestListens :
    let l := (testing .pattern .idle).part.settings.active.link
    (testing .pattern (.sending [1])).part.check.test = .sending [1] ∧
    (testing .prbs .turnaround).part.check.test = .turnaround ∧ l.rate ≤ 3 ∧
    (l.patternMarks.getLsbD (15 : Fin 16).val = true ∧ ∀ j < (15 : Fin 16), l.patternMarks.getLsbD j.val = false) ∧
    (testing .pattern (.listening 9 .seeking)).part.check.test = .listening 9 .seeking ∧
    (testing .pattern (.listening 9 (.pattern [.word 15]))).part.check.test = .listening 9 (.pattern (.word 15 :: [])) ∧
    (testing .prbs (.listening 9 (.prbs 0))).part.check.test = .listening 9 (.prbs 0) ∧
    (testing .prbs (.listening 9 (.prbs 7))).part.check.test = .listening 9 (.prbs 7) := by decide +kernel

/-- In the reset state almost no event can happen; with RESET-N low no fall can. -/
theorem test_witness_ImpossibleEventsLeavePart :
    let p := State.reset.part
    p.pins.resetN = true ∧ low.part.pins.resetN = false ∧ p.bus.straps.data8 = false ∧ p.scan.retryTimer = false ∧
    p.scan.lbtTimer = none ∧ p.scan.guardTimer = none ∧ p.scan.radio = .quiet ∧ p.check.test = .idle ∧
    p.engine.incidents[0].state ≠ .calling ∧ classify p.bus.straps (write 0x2000) ≠ .plain ∧
    (testing .pattern (.listening 9 .seeking)).part.check.kind = some .pattern := by decide +kernel

/-! ## States that have the laws, and take a step -/

theorem test_witness_step : ∃ t, step { calling with pending := [.openIncident calm] } = .next t := ⟨_, rfl⟩

theorem test_witness_StepKeepsStores :
    Memory.wf calling.part.mem = true ∧ calling.part.settings.inRange ∧ calling.part.countersInRange := by
  unfold SettingsStore.inRange Settings.inRange Part.countersInRange
  decide +kernel

theorem test_witness_StepKeepsUnits : ∀ u : UnitIx, (echoing.part.units[u]).law := by
  unfold UnitEntry.law
  decide +kernel

theorem test_witness_StepKeepsEngine :
    manned.part.engine.ageLaw ∧ manned.part.engine.engagementLaw ∧ manned.part.pendingLaw ∧
      ∀ k : Slot, (manned.part.engine.incidents[k]).countsLaw ∧ (manned.part.engine.incidents[k]).rangeLaw ∧
        (manned.part.engine.incidents[k]).capLaw ∧ (manned.part.engine.incidents[k]).stateLaw := by
  have timers : ∀ k : Slot, manned.part.engine.incidents[k].timer = none := by decide +kernel
  have standings : ∀ (v : VolunteerIx) (s : Slot),
      ((manned.part.engine.standing[v].engagement = .attending s ↔
        ∃ x ∈ manned.part.engine.incidents[s].attendees, x.volunteer = v) ∧
      (manned.part.engine.standing[v].engagement = .offered s → manned.part.engine.incidents[s].served = true)) := by
    decide +kernel
  refine ⟨?_, ⟨standings, by decide +kernel⟩, ?_, fun k => ⟨?_, ?_, ?_, ?_⟩⟩
  · unfold Engine.ageLaw
    decide +kernel
  · unfold Part.pendingLaw
    decide +kernel
  · unfold Incident.countsLaw
    revert k
    decide +kernel
  · unfold Incident.rangeLaw
    revert k
    decide +kernel
  · unfold Incident.capLaw
    revert k
    decide +kernel
  · refine ⟨?_, ?_, ?_, fun n h => nomatch (timers k).symm.trans h⟩ <;>
      (revert k; decide +kernel)

theorem test_witness_StepKeepsLink : calling.part.linkLaw := by
  have quiet : ∀ c, calling.part.scan.phase ≠ .retryWait c := by
    intro c h
    exact absurd h (by cases c <;> decide +kernel)
  unfold Part.linkLaw
  refine ⟨?_, ⟨fun h => absurd h (by decide +kernel), fun ⟨c, h⟩ => absurd h (quiet c)⟩, ?_, ?_, ?_, ?_, ?_⟩ <;>
    decide +kernel

end Sys2Proof.Tests
end

/-! # The memory path: the proofs of the statements about cycles, board words, requests and reset -/

section
namespace Sys2Proof.Machine

/-- Commands that leave equal parts answer the same next state. -/
theorem State.next_part (s : State) {p q : Part} (h : p = q) :
    (Host.Outcome.next { s with part := p } : Host.Outcome State Fault Refusal) = .next { s with part := q } := by
  rw [h]

/-! ## Plain cycles (R4, R16) -/

/-- The view of a cycle that reaches the static RAM (R4). -/
def BusView.ofMemory (a : Nat) (write : Bool) (x : Word) : BusView :=
  { memSelected := true, memRead := !write, memWrite := write, address := BitVec.ofNat 20 a, answer := x,
    waited := false }

/-- `p` with other memory contents and another view of the last cycle. -/
def Part.afterCycle (p : Part) (m : List Host.Cell) (v : BusView) : Part :=
  { p with mem := m, bus := { p.bus with view := v } }

theorem Part.ramByteWrite_eq (p : Part) (a : Nat) (x : Byte) :
    p.ramByteWrite a x = p.afterCycle (Memory.write p.mem a x) (.ofMemory a true 0) := rfl

theorem Part.ramWordWrite_eq (p : Part) (a : Nat) (w : Word) :
    p.ramWordWrite a w =
      p.afterCycle (Memory.write (Memory.write p.mem (2 * a) (lowByte w)) (2 * a + 1) (highByte w))
        (.ofMemory a true 0) := rfl

theorem Part.ramByteRead_eq (p : Part) (a : Nat) :
    p.ramByteRead a = p.afterCycle p.mem (.ofMemory a false ((Memory.read p.mem a).setWidth 16)) := rfl

theorem Part.ramWordRead_eq (p : Part) (a : Nat) :
    p.ramWordRead a = p.afterCycle p.mem (.ofMemory a false (ramWord p.mem a)) := rfl

/-- A plain write stores its byte or its word, by the data width. -/
theorem Part.plainCycle_write (p : Part) (c : BusCycle) (hm : Memory.wf p.mem = true) (hc : c.write = true) :
    ∃ m, p.plainCycle c = p.afterCycle m (.ofMemory (usedAddress p.bus.straps c.sa) true 0) ∧
      (p.bus.straps.data8 = true → Memory.storesByte p.mem m (usedAddress p.bus.straps c.sa) (lowByte c.data)) ∧
      (p.bus.straps.data8 = false → Memory.storesWord p.mem m (usedAddress p.bus.straps c.sa) c.data) := by
  cases hd : p.bus.straps.data8 with
  | true =>
    exact ⟨_, by simp [Part.plainCycle, hd, hc, Part.ramByteWrite_eq],
      fun _ => Memory.storesByte_write _ _ _ hm, nofun⟩
  | false =>
    exact ⟨_, by simp [Part.plainCycle, hd, hc, Part.ramWordWrite_eq], nofun,
      fun _ => Memory.storesWord_write _ _ _ hm⟩

/-- A plain read returns what memory holds and changes nothing but the view. -/
theorem Part.plainCycle_read (p : Part) (c : BusCycle) (hc : c.write = false) :
    p.plainCycle c = p.afterCycle p.mem (.ofMemory (usedAddress p.bus.straps c.sa) false
      (if p.bus.straps.data8 then (Memory.read p.mem (usedAddress p.bus.straps c.sa)).setWidth 16
       else ramWord p.mem (usedAddress p.bus.straps c.sa))) := by
  cases hd : p.bus.straps.data8 with
  | true => simp [Part.plainCycle, hd, hc, Part.ramByteRead_eq]
  | false => simp [Part.plainCycle, hd, hc, Part.ramWordRead_eq]

/-- PLAIN_CYCLE acts on a cycle of the plain class, and on every cycle while RESET-N is low (R16). -/
theorem exec_plainCycle (s : State) (c : BusCycle)
    (h : s.part.pins.resetN = false ∨ classify s.part.bus.straps c = .plain) :
    exec (.plainCycle c) s = .next { s with part := s.part.plainCycle c } := by
  have acts : !s.part.pins.resetN ∨ classify s.part.bus.straps c = .plain := by simpa using h
  have run : exec (.plainCycle c) s = .next { s with part := s.part.plainCommand c } := rfl
  rw [run, Part.plainCommand, if_pos acts]

/-- Settles O3, by the direction of the cycle. -/
theorem plainCyclePasses : Obligations.PlainCyclePasses := by
  unfold Obligations.PlainCyclePasses
  intro s c hm hplain
  refine ⟨fun hw => ?_, fun hr => ?_⟩
  · obtain ⟨m, hrun, hstored⟩ := s.part.plainCycle_write c hm hw
    refine ⟨m, ?_, hstored⟩
    rw [exec_plainCycle s c hplain, hrun]
    rfl
  · rw [exec_plainCycle s c hplain, s.part.plainCycle_read c hr]
    rfl

/-! ## The class of a cycle (R2, R3) -/

/-- BASE is reduced to the whole regions that the used address lines reach (R2). -/
theorem effectiveBase_eq (st : Straps) :
    effectiveBase st = if st.addr20 then st.base.toNat else st.base.toNat % (if st.data8 then 2 else 4) := by
  unfold effectiveBase
  split
  · rfl
  · split <;> rfl

theorem regionOffset_outside (st : Straps) (sa : BitVec 20)
    (h : wordAddress st sa < effectiveBase st * 16384 ∨ effectiveBase st * 16384 + 16384 ≤ wordAddress st sa) :
    regionOffset st sa = none := by
  unfold regionOffset
  exact if_neg (by omega)

theorem regionOffset_inside (st : Straps) (sa : BitVec 20) (off : Nat)
    (h : wordAddress st sa = effectiveBase st * 16384 + off) (ho : off < 16384) : regionOffset st sa = some off := by
  unfold regionOffset
  simp only
  rw [if_pos (by omega), h, Nat.add_sub_cancel_left]

theorem windowOf_elsewhere (off : Nat)
    (h : ¬(off < 0x0100 ∨ (0x0800 ≤ off ∧ off ≤ 0x0BBF) ∨ (0x1000 ≤ off ∧ off ≤ 0x113F)))
    (hb : ¬(0x2000 ≤ off ∧ off ≤ 0x2FFF)) : windowOf off = .elsewhere := by
  unfold windowOf
  rw [if_neg (by omega), if_neg (by omega), if_neg (by omega), if_neg (by omega)]

/-- The three windows whose writes are observed are the forwarded ones (R3). -/
theorem windowOf_observed (off : Nat)
    (h : off < 0x0100 ∨ (0x0800 ≤ off ∧ off ≤ 0x0BBF) ∨ (0x1000 ≤ off ∧ off ≤ 0x113F)) :
    (windowOf off).forwarded = true := by
  rcases h with hs | hr | hu
  · rw [windowOf_setup off hs]; rfl
  · rw [windowOf_roster off (by omega)]; rfl
  · rw [windowOf_unit off (by omega)]; rfl

theorem classify_outside (st : Straps) (c : BusCycle) (h : regionOffset st c.sa = none) : classify st c = .plain := by
  unfold classify
  rw [h]

theorem classify_forwarded (st : Straps) (c : BusCycle) (off : Nat) (h : regionOffset st c.sa = some off)
    (hw : (windowOf off).forwarded = true) : classify st c = if c.write then .forwarded off else .plain := by
  unfold classify
  rw [h]
  simp only
  generalize windowOf off = win at hw
  cases win with
  | setup => cases c.write <;> rfl
  | roster => cases c.write <;> rfl
  | unit => cases c.write <;> rfl
  | board => cases hw
  | elsewhere => cases hw

theorem classify_board (st : Straps) (c : BusCycle) (off : Nat) (h : regionOffset st c.sa = some off)
    (hw : windowOf off = .board) : classify st c = if c.write then .boardWrite off else .boardRead off := by
  unfold classify
  rw [h]
  simp only [hw]
  cases c.write <;> rfl

theorem classify_elsewhere (st : Straps) (c : BusCycle) (off : Nat) (h : regionOffset st c.sa = some off)
    (hw : windowOf off = .elsewhere) : classify st c = .plain := by
  unfold classify
  rw [h]
  simp only [hw]

/-- Settles O4, by the window of the offset. -/
theorem cycleClassFollowsRegion : Obligations.CycleClassFollowsRegion := by
  unfold Obligations.CycleClassFollowsRegion
  intro st c base bits word
  have hbase : base = effectiveBase st * 16384 := by
    rw [effectiveBase_eq]
    exact Nat.mul_comm _ _
  have hword : word = wordAddress st c.sa := rfl
  refine ⟨fun hout => ?_, fun off hoff hlt => ?_⟩
  · rw [hbase, hword] at hout
    exact classify_outside st c (regionOffset_outside st c.sa hout)
  · rw [hbase, hword] at hoff
    have hin := regionOffset_inside st c.sa off hoff hlt
    refine ⟨fun hobs => ?_, fun hb => ?_, fun hobs hb => ?_⟩
    · exact classify_forwarded st c off hin (windowOf_observed off hobs)
    · obtain ⟨k, rfl⟩ := Nat.exists_eq_add_of_le hb.1
      exact classify_board st c _ hin (windowOf_board k (by omega))
    · exact classify_elsewhere st c off hin (windowOf_elsewhere off hobs hb)

end Sys2Proof.Machine
end

section
namespace Sys2Proof.Machine

/-! ## While RESET-N is low (R16) -/

/-- A word command while RESET-N is low drives a write that nothing holds up. -/
theorem Part.writeWord_reset_view (p : Part) (off : Nat) (w : Word) (hr : p.pins.resetN = false) :
    (p.writeWord off w).bus.view.memWrite = true ∧ (p.writeWord off w).bus.view.waited = false := by
  cases hd : p.bus.straps.data8 with
  | true => simp [Part.writeWord, hd, Part.writeByteAt, hr, Part.ramByteWrite]
  | false => simp [Part.writeWord, hd, Part.wordIn, hr, Part.ramWordWrite]

/-- A byte write while RESET-N is low reaches memory and nothing else. -/
theorem Part.byteWrite_reset (p : Part) (off : Nat) (high : Bool) (x : Byte) (hr : p.pins.resetN = false)
    (hd : p.bus.straps.data8 = true) :
    p.byteWrite off high x =
      p.afterCycle (Memory.write p.mem (p.byteAddress off high) x) (.ofMemory (p.byteAddress off high) true 0) := by
  simp [Part.byteWrite, hd, Part.writeByteAt, hr, Part.ramByteWrite_eq]

/-- A byte read of a board word while RESET-N is low answers from memory. -/
theorem Part.byteRead_reset (p : Part) (k : Nat) (high : Bool) (hr : p.pins.resetN = false)
    (hd : p.bus.straps.data8 = true) :
    p.byteRead k high =
      p.afterCycle p.mem (.ofMemory (p.byteAddress (0x2000 + k) high) false
        ((Memory.read p.mem (p.byteAddress (0x2000 + k) high)).setWidth 16)) := by
  simp [Part.byteRead, hd, Part.readByteAt, hr, Part.ramByteRead_eq]

/-- A read of a board word while RESET-N is low answers from memory; in 8-bit mode the high byte is the last answer. -/
theorem Part.readWord_reset (p : Part) (k : Nat) (hr : p.pins.resetN = false) :
    p.readWord k = p.afterCycle p.mem
      (if p.bus.straps.data8 then
        .ofMemory (p.byteAddress (0x2000 + k) true) false
          ((Memory.read p.mem (p.byteAddress (0x2000 + k) true)).setWidth 16)
       else .ofMemory (offsetAddress p.bus.straps (0x2000 + k)) false
         (ramWord p.mem (offsetAddress p.bus.straps (0x2000 + k)))) := by
  cases hd : p.bus.straps.data8 with
  | true =>
    simp [Part.readWord, hd, Part.readByteAt, hr, Part.ramByteRead_eq, Part.afterCycle, Part.byteAddress]
  | false => simp [Part.readWord, hd, Part.wordOut, hr, Part.ramWordRead_eq]

theorem Part.pttKeyed_of_reset (p : Part) (hr : p.pins.resetN = false) : p.pttKeyed = false := by
  simp [Part.pttKeyed, hr]

theorem Part.noteActive_of_reset (p : Part) (l : NoteLine) (hr : p.pins.resetN = false) :
    p.noteActive l = false := by
  simp [Part.noteActive, hr]

/-- A word command while RESET-N is low: its word reaches memory, and of the part only the view and the levels of RDY
and CD can differ. -/
theorem exec_wordOfCommand_reset (c : Instr) (off : Nat) (w : Word) (h : wordOfCommand c = some (off, w)) (s : State)
    (hr : s.part.pins.resetN = false) (hm : Memory.wf s.part.mem = true) :
    ∃ t, exec c s = .next t ∧ t.pending = s.pending ∧
      Memory.storesWord s.part.mem t.part.mem (offsetAddress s.part.bus.straps off) w ∧
      t.part = { s.part with pins := { t.part.pins with resetN := false },
                             bus := { s.part.bus with view := t.part.bus.view }, mem := t.part.mem } ∧
      t.part.bus.view.memWrite = true ∧ t.part.bus.view.waited = false := by
  obtain ⟨ln, hexec⟩ := exec_wordOfCommand c off w h s
  have hlow : (s.part.withLines ln).pins.resetN = false := hr
  have hview := (s.part.withLines ln).writeWord_reset_view off w hlow
  obtain ⟨v, hrun⟩ := (s.part.withLines ln).writeWord_reset off w hlow
  rw [hrun] at hexec hview
  refine ⟨_, hexec, rfl, Memory.storesWord_write _ _ _ hm, ?_, hview⟩
  simp [Part.withLines, Part.onPins, hr]

/-- Settles O5, by the kind of command: word, board read, byte. -/
theorem resetLowKeepsPartOut : Obligations.ResetLowKeepsPartOut := by
  unfold Obligations.ResetLowKeepsPartOut
  intro s hr hm straps byteAt seen viewed place readBack
  have reads (k : Nat) : s.part.readWord k = (readBack k).part := by
    rw [s.part.readWord_reset k hr]
    simp only [readBack, viewed, straps]
    cases s.part.bus.straps.data8 <;> rfl
  refine ⟨fun c off w hw => exec_wordOfCommand_reset c off w hw s hr hm, fun k => s.next_part (reads k),
    fun b => s.next_part (reads (blockStart b)), fun hd => ⟨fun k => ⟨?_, ?_⟩, fun off x ln => ⟨?_, ?_⟩⟩,
    s.part.pttKeyed_of_reset hr, s.part.noteActive_of_reset .a hr, s.part.noteActive_of_reset .b hr⟩
  · exact s.next_part (s.part.byteRead_reset k false hr hd)
  · exact s.next_part (s.part.byteRead_reset k true hr hd)
  · exact ⟨_, Memory.storesByte_write _ _ _ hm, s.next_part (s.part.byteWrite_reset off false x hr hd)⟩
  · exact ⟨_, Memory.storesByte_write _ _ _ hm, s.next_part ((s.part.withLines ln).byteWrite_reset off true x hr hd)⟩

/-! ## Board reads (R6, R8, R9, R11) -/

/-- `p` after a board read that leaves a capture and a read high-byte latch and answers `x`. -/
def Part.afterBoardRead (p : Part) (capture : Option Capture) (readHigh : Option (Nat × Byte)) (x : Word) : Part :=
  { p with bus := { p.bus with capture := capture, readHigh := readHigh, view := .ofBoardRead x } }

theorem Part.wordOut_eq (p : Part) (k : Nat) (hr : p.pins.resetN = true) :
    p.wordOut k = p.afterBoardRead (p.captureAfter k) p.bus.readHigh (p.boardAnswer k) := by
  simp [Part.wordOut, hr, p.answerRead_eq k, Part.viewBoard, Part.onBus, Part.afterBoardRead, BusView.ofBoardRead]

/-- A low-byte read is a read of the word, and keeps the high byte of its answer. -/
theorem Part.readByteAt_low (p : Part) (k : Nat) (hr : p.pins.resetN = true) :
    p.readByteAt k false = p.afterBoardRead (p.captureAfter k) (some (0x2000 + k, highByte (p.boardAnswer k)))
      ((lowByte (p.boardAnswer k)).setWidth 16) := by
  simp [Part.readByteAt, hr, Part.lowByteOut, p.answerRead_eq k, Part.setReadHigh, Part.viewBoard, Part.onBus,
    Part.afterBoardRead, BusView.ofBoardRead]

/-- A high-byte read with the word's high byte kept returns it and touches no capture. -/
theorem Part.readByteAt_high_kept (p : Part) (k : Nat) (x : Byte) (hr : p.pins.resetN = true)
    (h : p.bus.readHigh = some (0x2000 + k, x)) :
    p.readByteAt k true = p.afterBoardRead p.bus.capture none (x.setWidth 16) := by
  simp [Part.readByteAt, hr, Part.highByteOut, h, Part.setReadHigh, Part.viewBoard, Part.onBus, Part.afterBoardRead,
    BusView.ofBoardRead]

/-- A high-byte read with nothing kept for the word is itself a read of the word. -/
theorem Part.readByteAt_high_fresh (p : Part) (k : Nat) (hr : p.pins.resetN = true)
    (h : ∀ x, p.bus.readHigh ≠ some (0x2000 + k, x)) :
    p.readByteAt k true = p.afterBoardRead (p.captureAfter k) p.bus.readHigh
      ((highByte (p.boardAnswer k)).setWidth 16) := by
  have fresh : p.highByteOut k = (p.answerRead k).1.viewBoard true ((highByte (p.answerRead k).2).setWidth 16) := by
    unfold Part.highByteOut
    cases hl : p.bus.readHigh with
    | none => rfl
    | some l =>
      obtain ⟨o, x⟩ := l
      exact if_neg fun e : o = 0x2000 + k => h x (by rw [hl, e])
  simp [Part.readByteAt, hr, fresh, p.answerRead_eq k, Part.viewBoard, Part.onBus, Part.afterBoardRead,
    BusView.ofBoardRead]

/-- A board word read, in either data mode: in 8-bit mode the high byte kept by the first cycle is the last answer. -/
theorem Part.readWord_eq (p : Part) (k : Nat) (hr : p.pins.resetN = true) :
    p.readWord k = p.afterBoardRead (p.captureAfter k) (if p.bus.straps.data8 then none else p.bus.readHigh)
      (if p.bus.straps.data8 then (highByte (p.boardAnswer k)).setWidth 16 else p.boardAnswer k) := by
  cases hd : p.bus.straps.data8 with
  | true =>
    have low := p.readByteAt_low k hr
    simp only [Part.readWord, hd, if_true]
    rw [low]
    exact Part.readByteAt_high_kept (p.afterBoardRead _ _ _) k _ hr rfl
  | false =>
    simp only [Part.readWord, hd, if_false, Bool.false_eq_true]
    exact p.wordOut_eq k hr

theorem Part.captureAfter_blockStart (p : Part) (b : BlockName) :
    p.captureAfter (blockStart b) = some { block := b, words := p.blockWords b } := by
  simp [Part.captureAfter, (blockAt_blockStart b).1]

theorem Part.boardAnswer_blockStart (p : Part) (b : BlockName) :
    p.boardAnswer (blockStart b) = p.blockWord b 0 := by
  have place := (blockAt_blockStart b).1
  simp [Part.boardAnswer, place, p.liveWord_block _ b 0 place]

/-- Settles O6: a board read is the same in either data mode but for its last answer and the read high-byte latch. -/
theorem boardReadAnswered : Obligations.BoardReadAnswered := by
  unfold Obligations.BoardReadAnswered
  intro s hr after
  have reads (k : Nat) : s.part.readWord k = (after k).part := s.part.readWord_eq k hr
  refine ⟨fun k => s.next_part (reads k), fun b => ⟨s.next_part (reads (blockStart b)), ?_,
    s.part.boardAnswer_blockStart b⟩⟩
  rw [s.part.captureAfter_blockStart b]
  cases b <;> rfl

/-- Settles O7, by what the read high-byte latch holds. -/
theorem byteReadsPaired : Obligations.ByteReadsPaired := by
  unfold Obligations.ByteReadsPaired
  intro s k hr hd
  have cycle (high : Bool) : s.part.byteRead k high = s.part.readByteAt k high := by simp [Part.byteRead, hd]
  have low : exec (.lowByteRead k) s = .next { s with part := s.part.byteRead k false } := rfl
  have high : exec (.highByteRead k) s = .next { s with part := s.part.byteRead k true } := rfl
  rw [low, high, cycle, cycle]
  refine ⟨?_, fun x hx => ?_, fun hx => ?_⟩
  · rw [s.part.readByteAt_low k hr]; rfl
  · rw [s.part.readByteAt_high_kept k x hr hx]; rfl
  · rw [s.part.readByteAt_high_fresh k hr hx]; rfl

end Sys2Proof.Machine
end

section
namespace Sys2Proof.Machine

/-! ## Byte writes (R10) -/

theorem windowOf_ne_of_forwarded (off : Nat) (h : (windowOf off).forwarded = true) :
    windowOf off ≠ .board ∧ windowOf off ≠ .elsewhere := by
  constructor <;> (intro e; rw [e] at h; cases h)

/-- A byte outside the BOARD window reaches memory. -/
theorem Part.byteToMemory_stores (p : Part) (off : Nat) (high : Bool) (x : Byte) (h : windowOf off ≠ .board) :
    p.byteToMemory off high x =
      p.afterCycle (Memory.write p.mem (p.byteAddress off high) x) (.ofMemory (p.byteAddress off high) true 0) :=
  if_neg h

/-- A byte in the BOARD window is withheld from memory. -/
theorem Part.byteToMemory_board (p : Part) (off : Nat) (high : Bool) (x : Byte) (h : windowOf off = .board) :
    p.byteToMemory off high x = p.beginBoardWrite := if_pos h

theorem Part.lowByteIn_held (p : Part) (off : Nat) (x : Byte) (h : windowOf off ≠ .elsewhere) :
    p.lowByteIn off x = (p.byteToMemory off false x).setPair (some (off, x)) := if_neg h

theorem Part.lowByteIn_elsewhere (p : Part) (off : Nat) (x : Byte) (h : windowOf off = .elsewhere) :
    p.lowByteIn off x = p.byteToMemory off false x := if_pos h

theorem Part.highByteIn_judged (p : Part) (off : Nat) (x : Byte) (h : windowOf off ≠ .elsewhere) :
    p.highByteIn off x = (p.byteToMemory off true x).completePair off x := if_neg h

theorem Part.highByteIn_elsewhere (p : Part) (off : Nat) (x : Byte) (h : windowOf off = .elsewhere) :
    p.highByteIn off x = p.byteToMemory off true x := if_pos h

/-- With the low byte of the word held, a high byte completes the word and empties the latch. -/
theorem Part.completePair_held (p : Part) (off : Nat) (lo x : Byte) (h : p.bus.bytePair = some (off, lo)) :
    p.completePair off x = (p.setPair none).takeWord off (wordOf lo x) := by
  unfold Part.completePair
  rw [h]
  exact if_pos rfl

/-- With no low byte of the word held, a high byte records BYTE-PAIR and takes no word. -/
theorem Part.completePair_unheld (p : Part) (off : Nat) (x : Byte) (h : ∀ lo, p.bus.bytePair ≠ some (off, lo)) :
    p.completePair off x = p.errorKept .bytePair off := by
  unfold Part.completePair
  cases hl : p.bus.bytePair with
  | none => rfl
  | some l =>
    obtain ⟨o, lo⟩ := l
    exact if_neg fun e : o = off => h lo (by rw [hl, e])

theorem Part.takeWord_board (p : Part) (off : Nat) (w : Word) (h : windowOf off = .board) :
    p.takeWord off w = p.takeBoardWord (off - 0x2000) w := if_pos h

theorem Part.takeWord_forwarded (p : Part) (off : Nat) (w : Word) (h : windowOf off ≠ .board) :
    p.takeWord off w = p.handOver off w := if_neg h

/-- In 8-bit mode with RESET-N high, the byte write commands are their cycles. -/
theorem exec_lowByteWrite (s : State) (off : Fin 16384) (x : Byte) (hr : s.part.pins.resetN = true)
    (hd : s.part.bus.straps.data8 = true) :
    exec (.lowByteWrite off x) s = .next { s with part := s.part.lowByteIn off x } := by
  have cycle : s.part.byteWrite off false x = s.part.lowByteIn off x := by
    simp [Part.byteWrite, hd, Part.writeByteAt, hr]
  exact s.next_part cycle

theorem exec_highByteWrite (s : State) (off : Fin 16384) (x : Byte) (ln : Lines) (hr : s.part.pins.resetN = true)
    (hd : s.part.bus.straps.data8 = true) :
    exec (.highByteWrite off x ln) s = .next { s with part := (s.part.withLines ln).highByteIn off x } := by
  have cycle : (s.part.withLines ln).byteWrite off true x = (s.part.withLines ln).highByteIn off x := by
    simp [Part.byteWrite, hd, Part.writeByteAt, hr]
  exact s.next_part cycle

/-- Settles O8, by the window of the byte. -/
theorem lowByteHeld : Obligations.LowByteHeld := by
  unfold Obligations.LowByteHeld
  intro s off x hr hd hm a stored
  rw [exec_lowByteWrite s off x hr hd]
  refine ⟨fun hw => ⟨_, Memory.storesByte_write _ a x hm, ?_⟩, fun hw => ?_,
    fun hw => ⟨_, Memory.storesByte_write _ a x hm, ?_⟩⟩
  · obtain ⟨hboard, helse⟩ := windowOf_ne_of_forwarded off hw
    rw [Part.lowByteIn_held _ _ _ helse, Part.byteToMemory_stores _ _ _ _ hboard]
    rfl
  · rw [Part.lowByteIn_held _ _ _ (by rw [hw]; decide), Part.byteToMemory_board _ _ _ _ hw]
    rfl
  · rw [Part.lowByteIn_elsewhere _ _ _ hw, Part.byteToMemory_stores _ _ _ _ (by rw [hw]; decide)]
    rfl

/-- The cycle of a board byte write in 8-bit mode that completes a word leaves what any board write leaves. -/
theorem Part.beginBoardWrite_setPair (p : Part) (hd : p.bus.straps.data8 = true) :
    p.beginBoardWrite.setPair none = p.withheld := by
  simp [Part.withheld, Bus.afterBoardWrite, hd, Part.beginBoardWrite, Part.setPair, Part.viewBoard, Part.onBus]

/-- Settles O9, by the window of the byte and what the byte-pair latch holds. -/
theorem highByteCompletesWord : Obligations.HighByteCompletesWord := by
  unfold Obligations.HighByteCompletesWord
  intro s off x ln hr hd hm p a stored
  rw [exec_highByteWrite s off x ln hr hd]
  refine ⟨fun hw => ⟨_, Memory.storesByte_write _ a x hm, ?_⟩, fun hw => ?_,
    fun hw => ⟨_, Memory.storesByte_write _ a x hm, ?_⟩⟩
  · obtain ⟨hboard, helse⟩ := windowOf_ne_of_forwarded off hw
    rw [Part.highByteIn_judged _ _ _ helse, Part.byteToMemory_stores _ _ _ _ hboard]
    refine ⟨fun lo hheld => ?_, fun hheld => ?_⟩
    · rw [Part.completePair_held _ _ lo, Part.takeWord_forwarded _ _ _ hboard]
      · rfl
      · exact hheld
    · rw [Part.completePair_unheld]
      · rfl
      · exact hheld
  · rw [Part.highByteIn_judged _ _ _ (by rw [hw]; decide), Part.byteToMemory_board _ _ _ _ hw]
    refine ⟨fun lo hheld => ?_, fun hheld => ?_⟩
    · rw [Part.completePair_held _ _ lo, Part.takeWord_board _ _ _ hw, Part.beginBoardWrite_setPair]
      · exact hd
      · exact hheld
    · rw [Part.completePair_unheld]
      · rfl
      · exact hheld
  · rw [Part.highByteIn_elsewhere _ _ _ hw, Part.byteToMemory_stores _ _ _ _ (by rw [hw]; decide)]
    rfl

/-! ## Board words taken (R7) -/

theorem Part.takeBoardWord_staging (p : Part) (k : Nat) (w : Word) (hk : k < 7) :
    p.takeBoardWord k w = p.onBus fun b => { b with staging := b.staging.put k w } := if_pos hk

theorem Part.takeBoardWord_counter (p : Part) (k : Nat) (w : Word) (hk : k ≤ 8) :
    p.takeBoardWord (0x030 + k) w = p.clearCounter k := by
  unfold Part.takeBoardWord
  rw [if_neg (by omega), if_neg (by omega), if_neg (by omega), if_neg (by omega), if_pos (by omega),
    Nat.add_sub_cancel_left]

/-- A place that takes no write takes no word: it is none of those the board write is judged by (R7). -/
theorem Part.takeBoardWord_ignored (p : Part) (k : Nat) (w : Word) (h : boardWordTakesWrites k = false) :
    p.takeBoardWord k w = p := by
  simp only [boardWordTakesWrites, Bool.or_eq_false_iff, decide_eq_false_iff_not, beq_eq_false_iff_ne,
    Bool.and_eq_false_iff] at h
  obtain ⟨⟨⟨⟨hstaging, herror⟩, hreject⟩, hcounter⟩, hnotes⟩ := h
  unfold Part.takeBoardWord
  rw [if_neg (by omega), if_neg (by omega), if_neg (by omega), if_neg (by omega), if_neg (by omega),
    if_neg (by omega), if_neg (by omega), if_neg (by omega), if_neg (by omega)]

/-- Settles O12: a board write is its cycles and then the taking of its word, and here none is taken. -/
theorem ignoredBoardWriteChangesNothing : Obligations.IgnoredBoardWriteChangesNothing := by
  unfold Obligations.IgnoredBoardWriteChangesNothing
  intro s k w hr hk
  have ignored : s.part.writeBoard k w = s.part.withheld := by
    rw [s.part.writeBoard_take k w k.isLt hr, Part.takeBoardWord_ignored _ _ _ hk]
  exact s.next_part ignored

/-- Settles O20: each clear is the board write of its place. -/
theorem recordsAndCountersCleared : Obligations.RecordsAndCountersCleared := by
  unfold Obligations.RecordsAndCountersCleared
  intro s w hr q
  refine ⟨s.next_part (s.part.writeBoard_take 0x02B w (by decide) hr),
    s.next_part (s.part.writeBoard_take 0x02D w (by decide) hr), fun k => s.next_part ?_⟩
  have hk := k.isLt
  refine (s.part.writeBoard_take (0x030 + k) w (by omega) hr).trans ?_
  rw [Part.takeBoardWord_counter _ _ _ (by omega)]
  fin_cases k <;> rfl

/-! ## Staging words (R12, 11.2) -/

theorem field_getLsbD (lo width n i : Nat) (hi : i < 16) :
    (field lo width n).getLsbD i = (decide (lo ≤ i) && (decide (i - lo < width) && n.testBit (i - lo))) := by
  simp only [field, BitVec.getLsbD_ofNat, Nat.testBit_mul_two_pow, Nat.testBit_mod_two_pow, hi, decide_true,
    Bool.true_and]

/-- A field cut out of a word and put back in its place is the word's bits there. -/
theorem field_slice (w : Word) (lo width : Nat) :
    field lo width ((w >>> lo).setWidth width).toNat = w &&& field lo width (2 ^ width - 1) := by
  apply BitVec.eq_of_getLsbD_eq
  intro i hi
  rw [BitVec.getLsbD_and, field_getLsbD _ _ _ _ hi, field_getLsbD _ _ _ _ hi, Nat.testBit_two_pow_sub_one,
    BitVec.testBit_toNat, BitVec.getLsbD_setWidth, BitVec.getLsbD_ushiftRight]
  by_cases hlo : lo ≤ i
  · rw [Nat.add_sub_cancel' hlo]
    cases decide (i - lo < width) <;> simp [hlo]
  · simp [hlo]

/-- Fields cut out of a word and joined again are the word's bits at their places. -/
theorem join_slices (w : Word) (places : List (Nat × Nat)) :
    join (places.map fun x => field x.1 x.2 ((w >>> x.1).setWidth x.2).toNat) =
      w &&& join (places.map fun x => field x.1 x.2 (2 ^ x.2 - 1)) := by
  have onto (m : Word) : (places.map fun x => w &&& field x.1 x.2 (2 ^ x.2 - 1)).foldl (· ||| ·) (w &&& m) =
      w &&& (places.map fun x => field x.1 x.2 (2 ^ x.2 - 1)).foldl (· ||| ·) m := by
    induction places generalizing m with
    | nil => rfl
    | cons x rest ih =>
      simp only [List.map_cons, List.foldl_cons, ← BitVec.and_or_distrib_left]
      exact ih _
  simp only [join, field_slice]
  rw [← onto 0, show w &&& 0 = 0 from BitVec.and_zero]

/-- The bits of staging word `k` that carry fields (11.2). -/
def stagingMask : Fin 7 → Word := ![0x00FF, 0xFFFF, 0x0FFF, 0xFFFF, 0x3FFF, 0x0FFF, 0x0000]

/-- A staging word keeps the bits of its fields. -/
theorem Staging.word_put_self (g : Staging) (k : Fin 7) (w : Word) : (g.put k w).word k = w &&& stagingMask k :=
  match k with
  | 0 => join_slices w [(0, 4), (4, 4)]
  | 1 => BitVec.and_allOnes.symm
  | 2 => join_slices w [(0, 4), (4, 4), (8, 4)]
  | 3 => join_slices w [(0, 4), (4, 4), (8, 4), (12, 4)]
  | 4 => join_slices w [(0, 4), (4, 4), (8, 6)]
  | 5 => join_slices w [(0, 8), (8, 4)]
  | 6 => BitVec.and_zero.symm

/-- A staging word leaves every other staging word as it was: no two of them share a field. -/
theorem Staging.word_put_other (g : Staging) (k : Fin 7) (j : Fin 8) (w : Word) (h : j.val ≠ k.val) :
    (g.put k w).word j = g.word j := by
  fin_cases k <;> fin_cases j <;> first | rfl | exact absurd rfl h

/-- Settles O10, with the staging fields that the write leaves as the witness. -/
theorem stagingWordKept : Obligations.StagingWordKept := by
  unfold Obligations.StagingWordKept
  intro s k w hr mask
  refine ⟨s.part.bus.staging.put k w, ?_, Staging.word_put_self _ k w, fun j hj => Staging.word_put_other _ k j w hj⟩
  have hk := k.isLt
  have taken : s.part.writeBoard k w =
      s.part.withheld.onBus fun b => { b with staging := b.staging.put k w } :=
    (s.part.writeBoard_take k w (by omega) hr).trans (Part.takeBoardWord_staging _ _ _ hk)
  exact s.next_part taken

end Sys2Proof.Machine
end

section
namespace Sys2Proof.Machine

/-! ## Reset (R16, R17) -/

/-- The part as a device reset leaves it (R17), with the pins, the straps, the memory and the view of the last cycle. -/
def Part.restarted (pins : Pins) (straps : Straps) (mem : List Host.Cell) (view : BusView) : Part :=
  { Part.initial pins straps mem with bus := { Bus.initial straps with view := view } }

theorem Part.resetBlocks_eq (p : Part) (b : Bool) (straps : Straps) :
    p.resetBlocks b straps = .restarted { p.pins with resetN := b } straps p.mem p.bus.view := rfl

/-- A plain cycle changes memory and the view of the last cycle alone. -/
theorem Part.plainCycle_pins (p : Part) (c : BusCycle) : (p.plainCycle c).pins = p.pins := by
  unfold Part.plainCycle
  cases p.bus.straps.data8 <;> cases c.write <;> rfl

/-- A plain cycle does not depend on the pins outside it. -/
theorem Part.plainCycle_onPins (p : Part) (f : Pins → Pins) (c : BusCycle) :
    (p.onPins f).plainCycle c = (p.plainCycle c).onPins f := by
  unfold Part.plainCycle
  rw [Part.onPins_bus]
  cases p.bus.straps.data8 <;> cases c.write <;> rfl

/-- A cycle under way when RESET-N falls completes as a plain cycle where its class reaches memory. -/
theorem Part.finishCycle_memory (p : Part) (c : BusCycle)
    (h : classify p.bus.straps c = .plain ∨ ∃ off, classify p.bus.straps c = .forwarded off) :
    p.finishCycle c = p.plainCycle c := by
  unfold Part.finishCycle
  obtain h | ⟨off, h⟩ := h <;> rw [h]

theorem Part.finishCycle_boardWrite (p : Part) (c : BusCycle) (off : Nat)
    (h : classify p.bus.straps c = .boardWrite off) : p.finishCycle c = p.viewBoard false 0 := by
  unfold Part.finishCycle
  rw [h]

theorem Part.finishCycle_boardRead (p : Part) (c : BusCycle) (off : Nat)
    (h : classify p.bus.straps c = .boardRead off) : p.finishCycle c = p.viewBoard true 0 := by
  unfold Part.finishCycle
  rw [h]

theorem exec_deviceReset (s : State) (pins : Straps) (c : Option BusCycle) (hr : s.part.pins.resetN = true) :
    exec (.deviceReset pins c) s =
      .next { s with part := (s.part.withCycle c Part.finishCycle).resetBlocks false pins } :=
  s.next_part (if_pos hr)

theorem exec_resetRelease (s : State) (pins : Straps) (c : Option BusCycle) (hr : s.part.pins.resetN = false) :
    exec (.resetRelease pins c) s =
      .next { s with part := (s.part.withCycle c Part.plainCycle).resetBlocks true pins } :=
  s.next_part (if_neg (by rw [hr]; decide))

/-- While RESET-N is low, what PLAIN_CYCLE answers. -/
theorem plainCycle_answer (s t : State) (c : BusCycle) (hr : s.part.pins.resetN = false)
    (h : exec (.plainCycle c) s = .next t) : t.part = s.part.plainCycle c := by
  rw [exec_plainCycle s c (.inl hr)] at h
  cases h
  rfl

/-- Settles O13, by the edge and the class of the cycle under way. -/
theorem resetEdges : Obligations.ResetEdges := by
  unfold Obligations.ResetEdges
  intro s pins fresh low
  have fallen (p : Part) (hp : p.pins = s.part.pins) (b : Bool) :
      ({ s with part := p.resetBlocks b pins } : State) = fresh b p.mem p.bus.view := by
    rw [Part.resetBlocks_eq, hp]
    rfl
  refine ⟨fun hr => ⟨?_, fun c => ⟨fun off hc => ?_, fun off hc => ?_, fun hc t ht => ?_⟩⟩,
    fun hr => ⟨?_, fun c t ht => ?_⟩⟩
  · rw [exec_deviceReset s pins none hr]
    exact congrArg _ (fallen s.part rfl false)
  · rw [exec_deviceReset s pins _ hr, Part.withCycle, Part.finishCycle_boardWrite _ _ _ hc]
    exact congrArg _ (fallen (s.part.viewBoard false 0) rfl false)
  · rw [exec_deviceReset s pins _ hr, Part.withCycle, Part.finishCycle_boardRead _ _ _ hc]
    exact congrArg _ (fallen (s.part.viewBoard true 0) rfl false)
  · have same : t.part = (s.part.plainCycle c).onPins fun x => { x with resetN := false } :=
      (plainCycle_answer low t c rfl ht).trans (s.part.plainCycle_onPins (fun x => { x with resetN := false }) c)
    rw [exec_deviceReset s pins _ hr, Part.withCycle, Part.finishCycle_memory _ _ hc, same]
    exact congrArg _ (fallen _ (s.part.plainCycle_pins c) false)
  · rw [exec_resetRelease s pins none hr]
    exact congrArg _ (fallen s.part rfl true)
  · rw [exec_resetRelease s pins _ hr, plainCycle_answer s t c hr ht]
    exact congrArg _ (fallen _ (s.part.plainCycle_pins c) true)

/-- A part that a device reset leaves has every block at its reset value. -/
theorem Part.justReset.restarted {p : Part} (h : p.justReset) :
    ∃ pins straps mem view, p = .restarted pins straps mem view := by
  obtain rfl | ⟨s, straps, c, ⟨hr, he⟩ | ⟨hr, he⟩⟩ := h
  · exact ⟨_, Config.resetStraps, [], BusView.initial, rfl⟩
  · rw [exec_deviceReset s straps c hr] at he
    cases he
    exact ⟨_, _, _, _, Part.resetBlocks_eq _ _ _⟩
  · rw [exec_resetRelease s straps c hr] at he
    cases he
    exact ⟨_, _, _, _, Part.resetBlocks_eq _ _ _⟩

/-- Every staging word reads 0 after reset (R17). -/
theorem Staging.initial_word (k : Nat) : Staging.initial.word k = 0 := by
  unfold Staging.word
  split <;> rfl

/-- The defaults of R18, word by word. -/
theorem Settings.initial_wordAt : ∀ off < 256, Settings.initial.wordAt off =
    if off = 0x01 then 1 else if off = 0x03 then 40 else if off = 0x04 then 3 else if off = 0x05 then 20
    else if off = 0x08 then 10 else if off = 0x09 then 0xF2 else if off = 0x0B then 0x5432
    else if off = 0x0C then 0xBA98 else if off = 0x10 then 0xB4E3 else if off = 0x11 then 0x2B5C
    else if off = 0x12 then 0x96A7 else if off = 0x13 then 0x4D1E else if off = 0x14 then 0xE2C9
    else if off = 0x15 then 0x735A else if off = 0x16 then 0x1FB8 else if off = 0x40 then 3 else 0 := by
  decide +kernel

/-- Settles O15: each block is read off its reset value. -/
theorem resetLeavesOtherBlocks : Obligations.ResetLeavesOtherBlocks := by
  unfold Obligations.ResetLeavesOtherBlocks
  intro p hp
  obtain ⟨pins, straps, mem, view, rfl⟩ := hp.restarted
  refine ⟨⟨rfl, rfl, rfl, rfl, rfl, Staging.initial_word⟩, ⟨rfl, rfl, Settings.initial_wordAt⟩, ⟨rfl, ?_⟩,
    ⟨fun k => ?_, fun v => ?_, rfl, rfl, rfl⟩, fun l => ?_, rfl⟩
  · exact Bool.and_false _
  · exact Vector.getElem_replicate k.isLt
  · exact Vector.getElem_replicate v.isLt
  · cases l <;> exact ⟨rfl, Bool.and_false _⟩

end Sys2Proof.Machine
end

section
namespace Sys2Proof.Machine

/-! ## The laws after reset (R17) -/

theorem Record.absent_valid : Record.absent.valid := nofun

theorem reset_rosterEntry (v : VolunteerIx) : State.reset.part.roster.entries[v] = RosterEntry.initial :=
  Vector.getElem_replicate v.isLt

theorem reset_unit (u : UnitIx) : State.reset.part.units[u] = UnitEntry.initial := Vector.getElem_replicate u.isLt

theorem reset_incident (k : Slot) : State.reset.part.engine.incidents[k] = Incident.initial :=
  Vector.getElem_replicate k.isLt

theorem reset_standing (v : VolunteerIx) : State.reset.part.engine.standing[v] = Standing.initial :=
  Vector.getElem_replicate v.isLt

theorem Settings.initial_inRange : Settings.initial.inRange := by
  unfold Settings.inRange
  decide

theorem reset_rosterLaw : State.reset.part.roster.law := by
  refine ⟨fun v => ?_, fun v w _ hv => ?_⟩
  · rw [reset_rosterEntry v]
    exact ⟨Record.absent_valid, fun _ => rfl, nofun⟩
  · rw [reset_rosterEntry v] at hv
    cases hv

theorem reset_urgentLaw : State.reset.part.urgentLaw := by
  refine ⟨List.nodup_nil, fun u => ?_⟩
  rw [reset_unit u]
  exact ⟨nofun, nofun⟩

theorem UnitEntry.initial_law : UnitEntry.initial.law :=
  ⟨by decide, fun _ => ⟨rfl, rfl, rfl, rfl, rfl, nofun, nofun⟩⟩

theorem reset_ageLaw : State.reset.part.engine.ageLaw := by
  refine ⟨List.nodup_nil, fun k => ?_⟩
  rw [reset_incident k]
  exact ⟨nofun, fun h => absurd rfl h⟩

theorem reset_engagementLaw : State.reset.part.engine.engagementLaw := by
  refine ⟨fun v k => ?_, fun k => ?_⟩
  · rw [reset_incident k, reset_standing v]
    exact ⟨⟨nofun, nofun⟩, nofun⟩
  · rw [reset_incident k]
    exact List.nodup_nil

theorem reset_pendingLaw : State.reset.part.pendingLaw := by
  intro v hv
  rw [reset_rosterEntry v] at hv
  exact absurd rfl hv

/-- A FREE incident slot with nothing in it has the laws of an incident. -/
theorem Incident.initial_laws :
    Incident.initial.countsLaw ∧ Incident.initial.rangeLaw ∧ Incident.initial.capLaw ∧ Incident.initial.stateLaw := by
  have free (h : Incident.initial.state ≠ .free) : False := h rfl
  refine ⟨⟨fun r => Vector.getElem_replicate r.isLt, rfl⟩, ⟨fun h => (free h).elim, ?_⟩, fun h => (free h).elim,
    fun _ => rfl, fun h => (free h).elim, ⟨nofun, nofun⟩, nofun⟩
  decide

theorem reset_linkLaw : State.reset.part.linkLaw := by
  have stopped : State.reset.part.scan.phase = .stopped := rfl
  have closed : State.reset.part.anyOpen = false := by decide +kernel
  refine ⟨⟨fun _ => rfl, fun _ => rfl⟩, ⟨nofun, nofun⟩, ⟨nofun, nofun⟩, ⟨nofun, nofun⟩,
    ⟨fun h => absurd rfl h, nofun⟩, fun _ => rfl, fun h => ?_⟩
  rw [closed] at h
  cases h

/-- Settles O60: each law holds of the reset values. -/
theorem resetHasLaws : Obligations.ResetHasLaws := by
  unfold Obligations.ResetHasLaws
  refine ⟨rfl, ⟨Settings.initial_inRange, Settings.initial_inRange⟩, ?_, reset_rosterLaw, reset_urgentLaw, fun u => ?_,
    reset_ageLaw, reset_engagementLaw, reset_pendingLaw, fun k => ?_, reset_linkLaw⟩
  · unfold Part.countersInRange
    decide
  · rw [reset_unit u]
    exact UnitEntry.initial_law
  · rw [reset_incident k]
    exact Incident.initial_laws

/-! ## Requests (R13 to R15) -/

/-- What every request answers but the unknown one: a result that is neither empty nor REFUSED-UNKNOWN, and the assigned
flag exactly where the request opens an incident and is DONE. -/
def Answer.known (a : Answer) (opens : Prop) : Prop :=
  a.code ≠ .none ∧ a.code ≠ .refusedUnknown ∧ (a.assigned.isSome = true ↔ opens ∧ a.code = .done)

theorem Answer.known.congr {a : Answer} {opens opens' : Prop} (h : a.known opens) (e : opens ↔ opens') :
    a.known opens' := by
  rwa [← propext e]

theorem Part.refuse_known (p : Part) (c : ResultCode) (opens : Prop) (hn : c ≠ .none) (hu : c ≠ .refusedUnknown)
    (hd : c ≠ .done) : (p.refuse c).known opens :=
  ⟨hn, hu, nofun, fun h => absurd h.2 hd⟩

theorem Part.done_known (p : Part) : p.done.known False := ⟨nofun, nofun, nofun, fun h => h.1.elim⟩

/-- R108 refuses with one of three codes. -/
theorem Part.openCheck_cases (p : Part) (c : ResultCode) (h : p.openCheck = some c) :
    c = .refusedLinkStopped ∨ c = .refusedInvalid ∨ c = .refusedFull := by
  simp only [Part.openCheck] at h
  repeat' split at h
  all_goals cases h <;> simp

theorem Part.doOpen_known (p : Part) : p.doOpen.known True := by
  unfold Part.doOpen
  split
  · next c hc =>
    obtain rfl | rfl | rfl := p.openCheck_cases c hc <;> exact p.refuse_known _ _ nofun nofun nofun
  · dsimp only
    split
    · exact ⟨nofun, nofun, fun _ => ⟨trivial, rfl⟩, fun _ => rfl⟩
    · exact p.refuse_known _ _ nofun nofun nofun

theorem Part.doAmend_known (p : Part) : p.doAmend.known False := by
  unfold Part.doAmend
  split
  · exact p.refuse_known _ _ nofun nofun nofun
  · split
    · exact p.refuse_known _ _ nofun nofun nofun
    · exact Part.done_known _

theorem Part.doClose_known (p : Part) : p.doClose.known False := by
  unfold Part.doClose
  split
  · exact p.refuse_known _ _ nofun nofun nofun
  · exact Part.done_known _

theorem Part.doAdvance_known (p : Part) : p.doAdvance.known False := by
  unfold Part.doAdvance
  split
  · exact p.refuse_known _ _ nofun nofun nofun
  · split
    · exact Part.done_known _
    · exact p.refuse_known _ _ nofun nofun nofun

theorem Part.manualAdmit_known (p : Part) (v : VolunteerIx) (k : Slot) (eta : Nat) :
    (p.manualAdmit v k eta).known False := by
  unfold Part.manualAdmit
  split
  · exact p.refuse_known _ _ nofun nofun nofun
  · exact Part.done_known _

theorem Part.doManualAttend_known (p : Part) : p.doManualAttend.known False := by
  unfold Part.doManualAttend
  split
  · exact p.refuse_known _ _ nofun nofun nofun
  · split
    · exact p.refuse_known _ _ nofun nofun nofun
    · dsimp only
      split
      · exact p.refuse_known _ _ nofun nofun nofun
      · split
        · exact p.refuse_known _ _ nofun nofun nofun
        · split
          · split
            · exact Part.done_known _
            · exact p.refuse_known _ _ nofun nofun nofun
          · exact p.manualAdmit_known _ _ _
          · exact p.manualAdmit_known _ _ _

theorem Part.doRelease_known (p : Part) : p.doRelease.known False := by
  unfold Part.doRelease
  split
  · exact p.refuse_known _ _ nofun nofun nofun
  · split
    · exact p.refuse_known _ _ nofun nofun nofun
    · exact Part.done_known _
    · exact Part.done_known _

theorem Part.doEngineClear_known (p : Part) : p.doEngineClear.known False := Part.done_known _

/-- The codes 1 to 7 name requests: only an OPEN sets the assigned flag. -/
theorem Part.request_known (p : Part) (code : Word) (h : 1 ≤ code.toNat ∧ code.toNat ≤ 7) :
    (p.request code).known (code = 1) := by
  obtain ⟨n, hn⟩ : ∃ n, code = BitVec.ofNat 16 n ∧ 1 ≤ n ∧ n ≤ 7 := ⟨code.toNat, by simp, h⟩
  obtain ⟨rfl, hlo, hhi⟩ := hn
  interval_cases n
  · exact p.doOpen_known.congr (by decide)
  · exact p.doAmend_known.congr (by decide)
  · exact p.doClose_known.congr (by decide)
  · exact p.doAdvance_known.congr (by decide)
  · exact p.doManualAttend_known.congr (by decide)
  · exact p.doRelease_known.congr (by decide)
  · exact p.doEngineClear_known.congr (by decide)

/-- A code that names no request is refused, and no owner acts. -/
theorem Part.request_unknown (p : Part) (code : Word) (h : code = 0 ∨ 7 < code.toNat) :
    p.request code = p.refuse .refusedUnknown := by
  have other (w : Word) (hw : 1 ≤ w.toNat ∧ w.toNat ≤ 7) : code ≠ w := by
    rintro rfl
    obtain h | h := h
    · exact absurd hw.1 (by rw [h]; decide)
    · omega
  unfold Part.request
  rw [if_neg (other 1 (by decide)), if_neg (other 2 (by decide)), if_neg (other 3 (by decide)),
    if_neg (other 4 (by decide)), if_neg (other 5 (by decide)), if_neg (other 6 (by decide)),
    if_neg (other 7 (by decide))]

end Sys2Proof.Machine
end

section
namespace Sys2Proof.Machine

/-! ## What a request leaves (R13 to R15) -/

/-- After an event of an enabled source its latch is set (R150). -/
theorem Part.report_latches (p : Part) (x : Source) (h : p.enabledSource x = true) :
    ((p.report x).notify.line x.line).status.getLsbD x.bit.val = true := by
  have line (n : Notify) (f : NoteUnit → NoteUnit) : (n.onLine x.line f).line x.line = f (n.line x.line) := by
    cases x.line <;> rfl
  have mask : (bitMask x.bit).getLsbD x.bit.val = true := by cases x <;> rfl
  rw [Part.report_notify, line, NoteUnit.latch]
  simp only [BitVec.getLsbD_or, BitVec.getLsbD_and, mask, Bool.and_true, Bool.or_eq_true]
  exact .inr h

/-- No latch is lost from `p` to `q`. -/
def Part.latchesKept (p q : Part) : Prop :=
  ∀ l (i : Nat), (p.notify.line l).status.getLsbD i = true → (q.notify.line l).status.getLsbD i = true

theorem Part.latchesKept_of_eq {p q : Part} (h : q.notify = p.notify) : p.latchesKept q := by
  intro l i hi
  rwa [h]

theorem Part.latchesKept.trans {p q r : Part} (h : p.latchesKept q) (k : q.latchesKept r) : p.latchesKept r :=
  fun l i hi => k l i (h l i hi)

theorem Part.readyCheck_latches (p : Part) : p.latchesKept p.readyCheck := by
  unfold Part.readyCheck
  dsimp only
  split
  · exact Part.latchesKept_of_eq (by simp)
  · split
    · exact Part.latchesKept_of_eq (by simp)
    · exact Part.latchesKept.trans (q := Part.onCheck _ _) (Part.latchesKept_of_eq (by simp))
        (Part.report_calm _ _).latches

/-- An attempt to start a cycle only reports. -/
theorem Part.attempt_latches (p : Part) : p.latchesKept p.attempt := by
  have taken : p.latchesKept p.takeLink.takeEnables :=
    (Part.latchesKept_of_eq (by simp)).trans (Part.takeEnables_calm _).latches
  unfold Part.attempt
  dsimp only
  split
  · exact taken.trans (Part.readyCheck_latches _)
  · exact taken.trans (Part.latchesKept_of_eq (by simp))

theorem Part.settle_latches (p : Part) : p.latchesKept p.settle := by
  unfold Part.settle
  split
  · exact p.attempt_latches
  · exact Part.latchesKept_of_eq rfl

/-- The part once a request's code is kept (R13, step 1). -/
def Part.codeKept (p : Part) (code : Word) : Part :=
  p.onBus fun b => { b with staging := { b.staging with action := code } }

/-- The part once the owner has acted on a request; an OPEN ends a hold (R90). -/
def Part.ownerActed (p : Part) (code : Word) : Part :=
  if code = 1 then ((p.codeKept code).request code).part.endHold else ((p.codeKept code).request code).part

/-- A request taken: the owner's work, the result recorded, then what an ended hold brings about. -/
theorem Part.takeRequest_eq (p : Part) (code : Word) :
    p.takeRequest code =
      ((p.ownerActed code).resultKept code ((p.codeKept code).request code).code
        ((p.codeKept code).request code).assigned).settle := rfl

/-- The owner's work is callout work. -/
theorem Part.ownerActed_calm (p : Part) (code : Word) : Calm (p.codeKept code) (p.ownerActed code) := by
  have owner := Part.request_calm (p.codeKept code) code
  unfold Part.ownerActed
  split
  · exact owner.trans (Part.endHold_calm _)
  · exact owner

theorem Part.takeRequest_bus (p : Part) (code : Word) :
    (p.takeRequest code).bus =
      { p.bus with
        staging := { p.bus.staging with action := code }
        result := { code := ((p.codeKept code).request code).code, action := code,
                    assigned := ((p.codeKept code).request code).assigned }
        requests := p.bus.requests + 1 } := by
  obtain ⟨-, hbus, -⟩ := (p.ownerActed_calm code).rest
  rw [Part.takeRequest_eq, Part.settle_bus, Part.resultKept, Part.report_bus, hbus]
  rfl

theorem Part.takeRequest_mem (p : Part) (code : Word) : (p.takeRequest code).mem = p.mem := by
  obtain ⟨-, -, hmem, -⟩ := (p.ownerActed_calm code).rest
  rw [Part.takeRequest_eq, Part.settle_mem, Part.resultKept, Part.report_mem, hmem]
  rfl

/-- REQUEST-TAKEN is latched where it is enabled (R13, step 4). -/
theorem Part.takeRequest_latched (p : Part) (code : Word) (h : p.notify.a.enables.getLsbD 7 = true) :
    (p.takeRequest code).notify.a.status.getLsbD 7 = true := by
  have enabled : (p.ownerActed code).enabledSource .requestTaken = true :=
    (congrArg (BitVec.getLsbD · 7) ((p.ownerActed_calm code).enables .a)).trans h
  rw [Part.takeRequest_eq]
  exact Part.settle_latches _ .a 7 (Part.report_latches _ .requestTaken enabled)

/-- The result of a request, by its code: REFUSED-UNKNOWN exactly for the codes that name none. -/
theorem Part.request_result (p : Part) (code : Word) :
    (p.request code).code ≠ .none ∧
      ((p.request code).assigned.isSome = true ↔ code = 1 ∧ (p.request code).code = .done) ∧
      ((p.request code).code = .refusedUnknown ↔ code = 0 ∨ 7 < code.toNat) := by
  by_cases hu : code = 0 ∨ 7 < code.toNat
  · rw [p.request_unknown code hu]
    exact ⟨nofun, ⟨nofun, fun h => nomatch h.2⟩, fun _ => hu, fun _ => rfl⟩
  · have names : 1 ≤ code.toNat ∧ code.toNat ≤ 7 := by bv_omega
    obtain ⟨hnone, hunknown, hassigned⟩ := p.request_known code names
    exact ⟨hnone, hassigned, fun h => absurd h hunknown, fun h => absurd h hu⟩

/-- A word written to the action word is a request taken once the cycles of the board write are done. -/
theorem Part.writeWord_action (p : Part) (code : Word) (hr : p.pins.resetN = true) :
    p.writeWord 0x2007 code = p.withheld.takeRequest code := p.writeBoard_take 0x007 code (by decide) hr

/-- While a hold stands, a code that names no request is refused and nothing else follows. -/
theorem Part.takeRequest_unknown (p : Part) (code : Word) (h : code = 0 ∨ 7 < code.toNat) (hh : p.holdStands) :
    p.takeRequest code = (p.codeKept code).resultKept code .refusedUnknown none := by
  have refused := (p.codeKept code).request_unknown code h
  have acted : p.ownerActed code = p.codeKept code := by
    unfold Part.ownerActed
    rw [refused]
    refine if_neg ?_
    rintro rfl
    exact absurd h (by decide)
  rw [Part.takeRequest_eq, acted, refused]
  exact Part.settle_of_holdStands _ hh

/-- Settles O11: what every request records, and REFUSED-UNKNOWN whole. -/
theorem requestRecorded : Obligations.RequestRecorded := by
  unfold Obligations.RequestRecorded
  refine ⟨fun s c code hr hc _ => ?_, fun s code hr hu hh => ?_⟩
  · obtain ⟨ln, hexec⟩ := exec_wordOfCommand c 0x2007 code hc s
    rw [(s.part.withLines ln).writeWord_action code hr] at hexec
    have bus := (s.part.withLines ln).withheld.takeRequest_bus code
    have mem := (s.part.withLines ln).withheld.takeRequest_mem code
    have latched := (s.part.withLines ln).withheld.takeRequest_latched code
    obtain ⟨hnone, hassigned, hunknown⟩ := Part.request_result ((s.part.withLines ln).withheld.codeKept code) code
    generalize (s.part.withLines ln).withheld.takeRequest code = q at hexec bus mem latched
    refine ⟨_, hexec, rfl, ?_⟩
    dsimp only
    rw [bus]
    exact ⟨rfl, rfl, rfl, hnone, hassigned, hunknown, latched, mem⟩
  · have taken : s.part.writeBoard 0x007 code = (s.part.requestKept code).resultKept code .refusedUnknown none :=
      (s.part.writeWord_action code hr).trans (Part.takeRequest_unknown _ code hu hh)
    exact s.next_part taken

end Sys2Proof.Machine
end

/-! # Settings: the proofs of the statements about setting words, scan run, test enables and the stores' ranges -/

section
namespace Sys2Proof.Machine

/-! ## Settings in range (R18) -/

/-- The cycle-bound settings with a stated range lie in it (R18). -/
def LinkSettings.inRange (l : LinkSettings) : Prop :=
  l.rate ≤ 3 ∧ l.hopCount ≤ 7 ∧ l.hopDelay ≤ 255 ∧ (1 ≤ l.syncCount ∧ l.syncCount ≤ 7) ∧
    (1 ≤ l.lbtLimit ∧ l.lbtLimit ≤ 50) ∧ (1 ≤ l.holdGuard ∧ l.holdGuard ≤ 60)

theorem Settings.inRange_iff (s : Settings) :
    s.inRange ↔ s.link.inRange ∧ (1 ≤ s.silentThreshold ∧ s.silentThreshold ≤ 15) ∧
      ∀ i : Fin 32, s.durations[i] ≤ 3600 := by
  simp only [Settings.inRange, LinkSettings.inRange, and_assoc]

/-- A setting with a range admits the words in it. -/
theorem Setting.admits_of_range {x : Setting} {lo hi : Nat} (h : x.range = some (lo, hi)) (w : Word) :
    x.admits w = true ↔ lo ≤ w.toNat ∧ w.toNat ≤ hi := by
  simp only [Setting.admits, h, Bool.and_eq_true, decide_eq_true_eq]

/-- A setting with no range of its own admits every word. -/
theorem Setting.admits_of_no_range {x : Setting} (h : x.range = none) (w : Word) : x.admits w = true := by
  simp only [Setting.admits, h]

/-- A word a setting admits keeps the cycle-bound settings in range. -/
theorem LinkSettings.put_inRange (l : LinkSettings) (x : Setting) (w : Word) (hw : x.admits w = true)
    (hl : l.inRange) : (l.put x w).inRange := by
  obtain ⟨rate, hopCount, hopDelay, syncCount, lbtLimit, holdGuard⟩ := hl
  cases x with
  | rate => exact ⟨((Setting.admits_of_range rfl w).1 hw).2, hopCount, hopDelay, syncCount, lbtLimit, holdGuard⟩
  | hopCount => exact ⟨rate, ((Setting.admits_of_range rfl w).1 hw).2, hopDelay, syncCount, lbtLimit, holdGuard⟩
  | hopDelay => exact ⟨rate, hopCount, ((Setting.admits_of_range rfl w).1 hw).2, syncCount, lbtLimit, holdGuard⟩
  | syncCount => exact ⟨rate, hopCount, hopDelay, (Setting.admits_of_range rfl w).1 hw, lbtLimit, holdGuard⟩
  | lbtLimit => exact ⟨rate, hopCount, hopDelay, syncCount, (Setting.admits_of_range rfl w).1 hw, holdGuard⟩
  | holdGuard => exact ⟨rate, hopCount, hopDelay, syncCount, lbtLimit, (Setting.admits_of_range rfl w).1 hw⟩
  | _ => exact ⟨rate, hopCount, hopDelay, syncCount, lbtLimit, holdGuard⟩

/-- A word a setting admits keeps the settings in range. -/
theorem Settings.put_inRange (s : Settings) (x : Setting) (w : Word) (hw : x.admits w = true) (hs : s.inRange) :
    (s.put x w).inRange := by
  rw [Settings.inRange_iff] at hs ⊢
  obtain ⟨link, silent, durations⟩ := hs
  cases x with
  | silentThreshold => exact ⟨link, (Setting.admits_of_range rfl w).1 hw, durations⟩
  | duration i =>
    refine ⟨link, silent, fun j => ?_⟩
    have admitted := ((Setting.admits_of_range rfl w).1 hw).2
    simp only [Settings.put, update_get]
    split
    · exact admitted
    · exact durations j
  | configured => exact ⟨link, silent, durations⟩
  | giving => exact ⟨link, silent, durations⟩
  | testScale => exact ⟨link, silent, durations⟩
  | _ => exact ⟨s.link.put_inRange _ w hw link, silent, durations⟩

theorem SettingsMove.keeps_inRange {s t : SettingsStore} (m : SettingsMove s t) (h : s.inRange) : t.inRange := by
  obtain ⟨staged, active⟩ := h
  cases m with
  | put x w hw now =>
    refine ⟨s.staged.put_inRange x w hw staged, ?_⟩
    cases now with
    | true => exact s.active.put_inRange x w hw active
    | false => exact active
  | link =>
    rw [Settings.inRange_iff] at active
    exact ⟨staged, (Settings.inRange_iff _).2 ⟨((Settings.inRange_iff _).1 staged).1, active.2⟩⟩
  | run => exact ⟨staged, active⟩
  | tests => exact ⟨staged, active⟩
  | error => exact ⟨staged, active⟩

theorem SettingsMove.keeps_errorCount {s t : SettingsStore} (m : SettingsMove s t) (h : s.error.count ≤ 255) :
    t.error.count ≤ 255 := by
  cases m with
  | error e he => exact he h
  | _ => exact h

theorem SettingsStore.initial_inRange : SettingsStore.initial.inRange :=
  ⟨Settings.initial_inRange, Settings.initial_inRange⟩

/-! ## What every step keeps of the stores -/

/-- The memory canonical, the settings in range and the counters in range. -/
def Part.storesLaw (p : Part) : Prop := Memory.wf p.mem = true ∧ p.settings.inRange ∧ p.countersInRange

/-- The counters outside the Link Check Unit, and those of the unit (R158). -/
theorem Part.countersInRange_iff (p : Part) :
    p.countersInRange ↔ p.settings.error.count ≤ 255 ∧ p.roster.reject.count ≤ 255 ∧ p.engine.stale ≤ 65535 ∧
      p.check.bounded := Iff.rfl

/-- The law reads the memory, the settings, the reject record, the stale count and the Link Check Unit only. -/
theorem Part.storesLaw.frame {p q : Part} (h : p.storesLaw) (mem : q.mem = p.mem) (settings : q.settings = p.settings)
    (reject : q.roster.reject = p.roster.reject) (stale : q.engine.stale = p.engine.stale)
    (check : q.check = p.check) : q.storesLaw := by
  rw [Part.storesLaw, Part.countersInRange_iff, mem, settings, reject, stale, check]
  exact h

theorem Part.resetBlocks_storesLaw (p : Part) (b : Bool) (pins : Straps) (hm : Memory.wf p.mem = true) :
    (p.resetBlocks b pins).storesLaw := by
  have counters : (p.resetBlocks b pins).countersInRange := by
    rw [Part.countersInRange_iff, LinkCheck.bounded]
    exact ⟨Nat.zero_le _, Nat.zero_le _, Nat.zero_le _, Nat.zero_le _, Nat.zero_le _, Nat.zero_le _, Nat.zero_le _,
      Nat.zero_le _, Nat.zero_le _, Nat.zero_le _⟩
  exact ⟨hm, SettingsStore.initial_inRange, counters⟩

/-- Of the moves, a byte written, a settings move, a reject, a stale count, a Link Check change and a reset can touch what
the law reads; each of them carries its bound. -/
theorem Move.keeps_storesLaw (p q : Part) (m : Move p q) (h : p.storesLaw) : q.storesLaw := by
  have frame {q : Part} := h.frame (q := q)
  obtain ⟨mem, settings, counters⟩ := h
  obtain ⟨errors, rejects, stale, check⟩ := p.countersInRange_iff.1 counters
  cases m with
  | mem a x => exact ⟨Memory.wf_write _ mem a x, settings, counters⟩
  | settings f hf => exact ⟨mem, hf.keeps_inRange settings, hf.keeps_errorCount errors, rejects, stale, check⟩
  | reject x hx => exact ⟨mem, settings, errors, hx rejects, stale, check⟩
  | stale n hn => exact ⟨mem, settings, errors, rejects, hn stale, check⟩
  | check f hf => exact ⟨mem, settings, errors, rejects, stale, hf check⟩
  | reset b x => exact p.resetBlocks_storesLaw b x mem
  | _ => exact frame rfl rfl rfl rfl rfl

/-- Settles O55: a step is a run of moves, and every move keeps the law. -/
theorem stepKeepsStores : Obligations.StepKeepsStores := by
  unfold Obligations.StepKeepsStores
  intro s t hstep law
  obtain ⟨t', hnext, moves⟩ := step_moves s
  obtain rfl : t' = t := by rw [hnext] at hstep; exact Host.Outcome.next.inj hstep
  exact moves.keeps Move.keeps_storesLaw law

end Sys2Proof.Machine
end

section
namespace Sys2Proof.Machine

/-! ## Setting words (R18 to R22) -/

/-- The offset of a setting (R18). -/
def Setting.offset : Setting → Nat
  | .rate => 0x01
  | .hopCount => 0x02
  | .hopDelay => 0x03
  | .syncCount => 0x04
  | .lbtLimit => 0x05
  | .radioMasks => 0x06
  | .holdEnable => 0x07
  | .holdGuard => 0x08
  | .rising => 0x09
  | .falling => 0x0A
  | .selectsLow => 0x0B
  | .selectsHigh => 0x0C
  | .syncWord i => 0x10 + i.val
  | .patternWord i => 0x20 + i.val
  | .patternMarks => 0x30
  | .silentThreshold => 0x40
  | .configured => 0x48
  | .giving => 0x49
  | .duration i => 0x50 + i.val
  | .testScale => 0x70

/-- The bits of a setting's word that carry a field (R18). -/
def Setting.mask : Setting → Word
  | .radioMasks => 0x0003
  | .holdEnable | .testScale => 0x0001
  | .rising | .falling | .configured | .giving => 0x00FF
  | _ => 0xFFFF

/-- The words a setting admits, as least and greatest (R18). -/
def Setting.bounds (x : Setting) : Nat × Nat := x.range.getD (0, 65535)

/-- The row of R18's table that a setting is. -/
def Setting.row (x : Setting) : Nat × Nat × Word × Bool := (x.bounds.1, x.bounds.2, x.mask, x.cycleBound)

theorem settingAt_offset {off : Nat} {x : Setting} (h : settingAt off = some x) : off = x.offset := by
  revert h
  fun_cases settingAt off
  case case21 => exact nofun
  all_goals
    rintro ⟨⟩
    simp only [Setting.offset]
    omega

theorem settingRow_offset (x : Setting) : settingRow x.offset = some x.row := by
  cases x with
  | syncWord i => fin_cases i <;> rfl
  | patternWord i => fin_cases i <;> rfl
  | duration i => fin_cases i <;> rfl
  | _ => rfl

theorem settingRow_none {off : Nat} (h : settingAt off = none) : settingRow off = none := by
  revert h
  fun_cases settingAt off
  case case21 =>
    intro
    unfold settingRow
    repeat rw [if_neg (by omega)]
  all_goals exact nofun

/-- The row of an offset is the row of the setting it names. -/
theorem settingRow_eq (off : Nat) : settingRow off = (settingAt off).map Setting.row := by
  cases h : settingAt off with
  | none => exact settingRow_none h
  | some x => rw [settingAt_offset h, settingRow_offset]; rfl

/-- A setting admits the words within its bounds. -/
theorem Setting.admits_iff (x : Setting) (w : Word) :
    x.admits w = true ↔ x.bounds.1 ≤ w.toNat ∧ w.toNat ≤ x.bounds.2 := by
  cases h : x.range with
  | none =>
    have whole : x.bounds = (0, 65535) := by rw [Setting.bounds, h]; rfl
    rw [whole]
    exact iff_of_true (Setting.admits_of_no_range h w) ⟨Nat.zero_le _, Nat.le_of_lt_succ w.isLt⟩
  | some r =>
    have own : x.bounds = r := by rw [Setting.bounds, h]; rfl
    rw [own]
    exact Setting.admits_of_range h w

/-! ## The word a setting stands for (11.1) -/

theorem Settings.wordAt_syncWord (s : Settings) (i : Fin 7) : s.wordAt (0x10 + i.val) = s.link.syncWords[i] := by
  fin_cases i <;> rfl

theorem Settings.wordAt_patternWord (s : Settings) (i : Fin 16) :
    s.wordAt (0x20 + i.val) = s.link.patternWords[i] := by
  fin_cases i <;> rfl

theorem Settings.wordAt_duration (s : Settings) (i : Fin 32) :
    s.wordAt (0x50 + i.val) = BitVec.ofNat 16 s.durations[i] := by
  fin_cases i <;> rfl

theorem ofNat_toNat_eq_and (w : Word) : BitVec.ofNat 16 w.toNat = w &&& 0xFFFF := by
  have whole : w &&& 0xFFFF = w := BitVec.and_allOnes
  rw [whole, BitVec.ofNat_toNat, BitVec.setWidth_eq]

theorem eq_and_wholeMask (w : Word) : w = w &&& 0xFFFF := BitVec.and_allOnes.symm

theorem lowByte_eq_and (w : Word) : (lowByte w).setWidth 16 = w &&& 0x00FF := by
  ext i h
  simp only [lowByte, BitVec.getElem_setWidth, BitVec.getLsbD_setWidth, BitVec.getElem_and]
  interval_cases i <;> simp

theorem oneBit_eq_and (w : Word) : (BitVec.ofBool (w.getLsbD 0)).setWidth 16 = w &&& 0x0001 := by
  ext i h
  interval_cases i <;> simp

theorem twoBits_eq_and (w : Word) :
    (BitVec.ofBool (w.getLsbD 1) ++ BitVec.ofBool (w.getLsbD 0)).setWidth 16 = w &&& 0x0003 := by
  ext i h
  simp only [BitVec.getElem_setWidth, BitVec.getLsbD_append]
  interval_cases i <;> simp

/-- A setting that has taken a word shows the word's assigned bits. -/
theorem Settings.wordAt_put_self (s : Settings) (x : Setting) (w : Word) :
    (s.put x w).wordAt x.offset = w &&& x.mask := by
  cases x with
  | radioMasks => exact twoBits_eq_and w
  | holdEnable => exact oneBit_eq_and w
  | testScale => exact oneBit_eq_and w
  | rising => exact lowByte_eq_and w
  | falling => exact lowByte_eq_and w
  | configured => exact lowByte_eq_and w
  | giving => exact lowByte_eq_and w
  | selectsLow => exact eq_and_wholeMask w
  | selectsHigh => exact eq_and_wholeMask w
  | patternMarks => exact eq_and_wholeMask w
  | syncWord i => exact (Settings.wordAt_syncWord _ i).trans ((update_self _ i _).trans (eq_and_wholeMask w))
  | patternWord i => exact (Settings.wordAt_patternWord _ i).trans ((update_self _ i _).trans (eq_and_wholeMask w))
  | duration i =>
    exact (Settings.wordAt_duration _ i).trans ((congrArg _ (update_self _ i _)).trans (ofNat_toNat_eq_and w))
  | _ => exact ofNat_toNat_eq_and w

/-- An offset of a run of words that is not the `i`-th word's is another word's. -/
theorem exists_other_index {n base o : Nat} (i : Fin n) (h : base ≤ o ∧ o < base + n) (ho : o ≠ base + i.val) :
    ∃ j : Fin n, o = base + j.val ∧ j ≠ i := by
  obtain ⟨k, rfl⟩ := Nat.exists_eq_add_of_le h.1
  exact ⟨⟨k, by omega⟩, rfl, fun e => ho (by rw [← e])⟩

/-- A setting that takes a word leaves every other word. -/
theorem Settings.wordAt_put_ne (s : Settings) (x : Setting) (w : Word) (o : Nat) (ho : o ≠ x.offset) :
    (s.put x w).wordAt o = s.wordAt o := by
  cases x with
  | syncWord i =>
    by_cases run : 0x10 ≤ o ∧ o ≤ 0x16
    · obtain ⟨j, rfl, hj⟩ := exists_other_index i (by omega) ho
      simp only [Settings.wordAt_syncWord, Settings.put, LinkSettings.put, update_ne _ _ _ _ hj]
    · simp only [Settings.wordAt, Settings.put, LinkSettings.put, dif_neg run]
  | patternWord i =>
    by_cases run : 0x20 ≤ o ∧ o ≤ 0x2F
    · obtain ⟨j, rfl, hj⟩ := exists_other_index i (by omega) ho
      simp only [Settings.wordAt_patternWord, Settings.put, LinkSettings.put, update_ne _ _ _ _ hj]
    · simp only [Settings.wordAt, Settings.put, LinkSettings.put, dif_neg run]
  | duration i =>
    by_cases run : 0x50 ≤ o ∧ o ≤ 0x6F
    · obtain ⟨j, rfl, hj⟩ := exists_other_index i (by omega) ho
      simp only [Settings.wordAt_duration, Settings.put, update_ne _ _ _ _ hj]
    · simp only [Settings.wordAt, Settings.put, dif_neg run]
  | _ =>
    simp only [Setting.offset] at ho
    simp only [Settings.wordAt, Settings.put, LinkSettings.put, if_neg ho]

/-! ## A setting word judged (R19 to R22) -/

theorem Part.judgeSetting_none (p : Part) (off : Nat) (w : Word) (h : settingAt off = none) :
    p.judgeSetting off w = p := by
  simp only [Part.judgeSetting, h]

theorem Part.judgeSetting_refused (p : Part) (off : Nat) (w : Word) (x : Setting) (h : settingAt off = some x)
    (hw : x.admits w = false) : p.judgeSetting off w = p.errorKept .outOfRange off := by
  simp only [Part.judgeSetting, h, hw, Bool.false_eq_true, if_false]
  exact p.recordError_eq _ _

theorem Part.judgeSetting_taken (p : Part) (off : Nat) (w : Word) (x : Setting) (h : settingAt off = some x)
    (hw : x.admits w = true) : p.judgeSetting off w = p.takeSetting x w := by
  simp only [Part.judgeSetting, h, hw, if_true]

/-- A word at an offset other than scan run and the test enables goes to the setting it names. -/
theorem Part.takeSetupWord_setting (p : Part) (off : Nat) (w : Word) (h0 : off ≠ 0x00) (h18 : off ≠ 0x18) :
    p.takeSetupWord off w = p.judgeSetting off w := by
  rw [Part.takeSetupWord, if_neg h0, if_neg h18]

theorem Part.settingWaits_iff (p : Part) (x : Setting) :
    (x.cycleBound && !p.takesAtOnce) = true ↔
      x.cycleBound = true ∧ (p.settings.active.scanRun = true ∨ p.check.test.inFlight = true) := by
  simp [Part.takesAtOnce, Part.stopped]

/-- The active settings once a word is taken: a cycle-bound one waits while the link runs or a burst is in flight. -/
def Part.activeAfter (p : Part) (x : Setting) (w : Word) : Settings :=
  if x.cycleBound && !p.takesAtOnce then p.settings.active else p.settings.active.put x w

theorem Part.takeSetting_eq (p : Part) (x : Setting) (w : Word) :
    p.takeSetting x w =
      { p with settings := { p.settings with staged := p.settings.staged.put x w, active := p.activeAfter x w } } := rfl

theorem Part.activeAfter_spec (p : Part) (x : Setting) (w : Word) :
    if x.cycleBound = true ∧ (p.settings.active.scanRun = true ∨ p.check.test.inFlight = true)
    then p.activeAfter x w = p.settings.active
    else (p.activeAfter x w).wordAt x.offset = w &&& x.mask ∧
      ∀ o < 256, o ≠ x.offset → (p.activeAfter x w).wordAt o = p.settings.active.wordAt o := by
  split
  · next waits => exact if_pos ((p.settingWaits_iff x).2 waits)
  · next now =>
    rw [Part.activeAfter, if_neg (mt (p.settingWaits_iff x).1 now)]
    exact ⟨Settings.wordAt_put_self _ x w, fun o _ ho => Settings.wordAt_put_ne _ x w o ho⟩

/-- Settles O16: the word is forwarded, and goes by the setting that its offset names. -/
theorem settingWordJudged : Obligations.SettingWordJudged := by
  unfold Obligations.SettingWordJudged
  intro s off w hr hm h0 h18
  obtain ⟨q, hq, hrun⟩ := s.part.setupWord off w off.isLt hr hm
  rw [Part.takeSetupWord_setting _ _ _ h0 h18] at hrun
  have answer {p : Part} (h : q.judgeSetting off w = p) : exec (.setupWrite off w) s = .next { s with part := p } :=
    s.next_part (hrun.trans h)
  refine ⟨q, hq, fun hnone => ?_, fun lo hi mask cycleBound hrow => ?_⟩
  · rw [settingRow_eq, Option.map_eq_none_iff] at hnone
    exact answer (q.judgeSetting_none _ _ hnone)
  · rw [settingRow_eq, Option.map_eq_some_iff] at hrow
    obtain ⟨x, hx, hrow⟩ := hrow
    obtain ⟨rfl, rfl, rfl, rfl⟩ : x.bounds.1 = lo ∧ x.bounds.2 = hi ∧ x.mask = mask ∧ x.cycleBound = cycleBound := by
      simpa only [Setting.row, Prod.mk.injEq] using hrow
    refine ⟨fun hout => ?_, fun hlo hhi => ?_⟩
    · have refused : x.admits w = false := by
        rw [Bool.eq_false_iff, Ne, Setting.admits_iff]
        omega
      exact answer (q.judgeSetting_refused _ _ x hx refused)
    · rw [settingAt_offset hx, ← hq.settings, ← hq.check]
      exact ⟨q.settings.staged.put x w, q.activeAfter x w,
        answer (q.judgeSetting_taken _ _ x hx ((x.admits_iff w).2 ⟨hlo, hhi⟩)),
        Settings.wordAt_put_self _ x w, fun o _ ho => Settings.wordAt_put_ne _ x w o ho, q.activeAfter_spec x w⟩

end Sys2Proof.Machine
end

section
namespace Sys2Proof.Machine

/-! ## Scan run (R23, R24, R91) -/

theorem scanRunWord_bit (rest : BitVec 15) (on : Bool) : (scanRunWord rest on).getLsbD 0 = on := by
  rw [scanRunWord, BitVec.getLsbD_append, if_pos Nat.zero_lt_one]
  cases on <;> rfl

/-- A scan run word goes by its bit 0. -/
theorem Part.takeSetupWord_scanRun (p : Part) (rest : BitVec 15) (on : Bool) :
    p.takeSetupWord 0x00 (scanRunWord rest on) = if on then p.scanRunOn else p.scanRunOff := by
  rw [Part.takeSetupWord, if_pos rfl, scanRunWord_bit]

theorem Part.scanRunOn_running (p : Part) (h : p.settings.active.scanRun = true) :
    p.scanRunOn = p.stageScanRun true := by
  simp [Part.scanRunOn, Part.stopped, h]

theorem Part.scanRunOn_stopped (p : Part) (h : p.settings.active.scanRun = false) :
    p.scanRunOn = (p.stageScanRun true).startLink := by
  simp [Part.scanRunOn, Part.stopped, h]

/-- Settles O17, by active scan run. -/
theorem scanRunOn : Obligations.ScanRunOn := by
  unfold Obligations.ScanRunOn
  intro s rest ln hr hm
  obtain ⟨q, hq, hrun⟩ := (s.part.withLines ln).setupWord 0x00 (scanRunWord rest true) (by decide) hr hm
  rw [Part.takeSetupWord_scanRun, if_pos rfl] at hrun
  refine ⟨q, hq, fun hon => ?_, fun hoff => ?_⟩
  · exact s.next_part (hrun.trans (q.scanRunOn_running hon))
  · exact s.next_part (hrun.trans (q.scanRunOn_stopped hoff))

/-- An incident is open in some slot that is not FREE. -/
theorem Part.anyOpen_iff (p : Part) : p.anyOpen = true ↔ ∃ k : Slot, p.engine.incidents[k].state ≠ .free := by
  simp only [Part.anyOpen, Part.isOpen, Part.incident, List.any_eq_true, List.mem_finRange, true_and]
  exact exists_congr fun k => decide_eq_true_iff

theorem Part.scanRunOff_refused (p : Part) (h : ∃ k : Slot, p.engine.incidents[k].state ≠ .free) :
    p.scanRunOff = p.refuseStop := by
  rw [Part.scanRunOff, if_pos (p.anyOpen_iff.2 h)]

theorem Part.anyOpen_eq_false (p : Part) (h : ∀ k : Slot, p.engine.incidents[k].state = .free) :
    p.anyOpen = false := by
  rw [Bool.eq_false_iff, Ne, p.anyOpen_iff]
  exact fun ⟨k, hk⟩ => hk (h k)

/-- With every slot FREE, scan run off is only staged where a cycle is in progress or the link is stopped. -/
theorem Part.scanRunOff_pending (p : Part) (h : ∀ k : Slot, p.engine.incidents[k].state = .free)
    (phase : p.scan.phase = .stopped ∨ p.scan.phase = .channelWait ∨ p.scan.phase = .cycling) :
    p.scanRunOff = p.stageScanRun false := by
  obtain e | e | e := phase <;> simp [Part.scanRunOff, p.anyOpen_eq_false h, e]

/-- With every slot FREE, scan run off stops a link that waits to retry or holds. -/
theorem Part.scanRunOff_stops (p : Part) (h : ∀ k : Slot, p.engine.incidents[k].state = .free)
    (phase : (∃ c, p.scan.phase = .retryWait c) ∨ p.scan.phase = .holding) :
    p.scanRunOff = (p.stageScanRun false).stopLink := by
  obtain ⟨c, e⟩ | e := phase <;> simp [Part.scanRunOff, p.anyOpen_eq_false h, e]

/-- Settles O18, by the open slots and the phase of the link. -/
theorem scanRunOff : Obligations.ScanRunOff := by
  unfold Obligations.ScanRunOff
  refine ⟨fun s rest ln hr hm => ?_, fun p => rfl⟩
  obtain ⟨q, hq, hrun⟩ := (s.part.withLines ln).setupWord 0x00 (scanRunWord rest false) (by decide) hr hm
  rw [Part.takeSetupWord_scanRun, if_neg Bool.false_ne_true] at hrun
  have engine : s.part.engine = q.engine := hq.engine.symm
  have scan : s.part.scan = q.scan := hq.scan.symm
  rw [engine, scan]
  refine ⟨q, hq, fun hopen => ?_, fun hfree => ⟨fun hphase => ?_, fun hphase => ?_⟩⟩
  · exact s.next_part (hrun.trans (q.scanRunOff_refused hopen))
  · exact s.next_part (hrun.trans (q.scanRunOff_pending hfree hphase))
  · exact s.next_part (hrun.trans (q.scanRunOff_stops hfree hphase))

/-! ## Test enables (R25) -/

theorem Part.takeSetupWord_tests (p : Part) (w : Word) :
    p.takeSetupWord 0x18 w = p.testEnables (testEnablesOf w) := rfl

theorem Part.testEnables_both (p : Part) (t : TestEnables) (h : t.pattern = true ∧ t.prbs = true) :
    p.testEnables t =
      ((p.stageTests { pattern := false, prbs := false }).recordError .testBoth 0x18).takeTests := by
  simp [Part.testEnables, h.1, h.2]

theorem Part.testEnables_scanning (p : Part) (t : TestEnables) (h : t.pattern ≠ t.prbs)
    (run : p.settings.active.scanRun = true) :
    p.testEnables t = (p.stageTests t).recordError .testWhileScanning 0x18 := by
  have both : (t.pattern && t.prbs) = false := by grind
  have one : (t.pattern || t.prbs) = true := by grind
  simp [Part.testEnables, both, one, Part.stopped, run]

theorem Part.testEnables_other (p : Part) (t : TestEnables)
    (h : t.pattern ≠ t.prbs ∧ p.settings.active.scanRun = false ∨ t = { pattern := false, prbs := false }) :
    p.testEnables t = (p.stageTests t).takeTests := by
  obtain ⟨one, stopped⟩ | rfl := h
  · have both : (t.pattern && t.prbs) = false := by grind
    simp [Part.testEnables, both, Part.stopped, stopped]
  · simp [Part.testEnables]

/-- The staged test enables become active while the link is stopped with no burst in flight (R21, R25). -/
theorem Part.takeTests_eq (p : Part) :
    p.takeTests =
      if p.settings.active.scanRun = false ∧ p.check.test.inFlight = false then
        Part.judgeTests { p with settings := { p.settings with active := { p.settings.active with
          tests := p.settings.staged.tests } } }
      else p := by
  simp only [Part.takeTests, Part.takesAtOnce, Part.stopped, Bool.and_eq_true, Bool.not_eq_true']
  rfl

/-- Settles O19, by the two enables of the word and active scan run. -/
theorem testEnablesJudged : Obligations.TestEnablesJudged := by
  unfold Obligations.TestEnablesJudged
  intro s w ln hr hm
  obtain ⟨q, hq, hrun⟩ := (s.part.withLines ln).setupWord 0x18 w (by decide) hr hm
  rw [Part.takeSetupWord_tests] at hrun
  have settings : s.part.settings = q.settings := hq.settings.symm
  have check : s.part.check = q.check := hq.check.symm
  rw [settings, check]
  refine ⟨q, hq, fun hboth => ?_, fun hone hon => ?_, fun hother => ?_⟩
  · exact s.next_part (hrun.trans ((q.testEnables_both _ hboth).trans (Part.takeTests_eq _)))
  · exact s.next_part (hrun.trans (q.testEnables_scanning _ hone hon))
  · exact s.next_part (hrun.trans ((q.testEnables_other _ hother).trans (Part.takeTests_eq _)))

/-! ## The times of a slot (R84, R85) -/

/-- The bit time in ticks: a second over the bits of a second at R18's rate. -/
theorem bitTicks_eq (rate : Nat) : bitTicks rate = 6000000 / (1200 * 2 ^ rate) := by
  rw [← Nat.div_div_eq_div_mul]
  rfl

theorem windowTicks_eq (l : LinkSettings) (bits : Nat) :
    windowTicks l bits = bits * (6000000 / (1200 * 2 ^ l.rate)) + l.hopCount * l.hopDelay * 6000 + 5 * 6000 := by
  rw [← bitTicks_eq]
  rfl

theorem Part.packetSent_packet (p : Part) (words : List Word) (h : p.scan.radio = .packet words) :
    p.packetSent = { p with scan := { p.scan with radio := .turnaround } } := by
  rw [Part.packetSent, h]
  rfl

theorem Part.armReply_turnaround (p : Part) (h : p.scan.radio = .turnaround) :
    p.armReply =
      { p with scan := { p.scan with radio := .window (windowTicks p.settings.active.link 112) .nothing } } := by
  rw [Part.armReply, h]
  rfl

theorem Part.replyStarts_nothing (p : Part) (ticks : Nat) (h : p.scan.radio = .window ticks .nothing) :
    p.replyStarts = { p with scan := { p.scan with radio := .window ticks .started } } := by
  rw [Part.replyStarts, h]
  rfl

/-- Settles O39, by the radio's state. -/
theorem slotTimes : Obligations.SlotTimes := by
  unfold Obligations.SlotTimes
  intro s
  refine ⟨fun words h => ?_, fun h _ => ?_, fun ticks h => ?_⟩
  · exact s.next_part (s.part.packetSent_packet words h)
  · rw [← windowTicks_eq]
    exact s.next_part (s.part.armReply_turnaround h)
  · exact s.next_part (s.part.replyStarts_nothing ticks h)

end Sys2Proof.Machine
end

section
namespace Sys2Proof.Machine

/-! ## The pattern burst (R164, R165) -/

/-- The places of one word of a repetition: a lead-in first where the word is marked. -/
def wordPlaces (marks : Word) (i : Fin 16) : List Place :=
  if marks.getLsbD i.val then [.leadIn, .word i] else [.word i]

/-- Word `f` is the first marked word. -/
def firstMark (marks : Word) (f : Fin 16) : Prop :=
  marks.getLsbD f.val = true ∧ ∀ j < f, marks.getLsbD j.val = false

theorem patternRepetition_eq (marks : Word) : patternRepetition marks = (List.finRange 16).flatMap (wordPlaces marks) :=
  rfl

theorem patternPlaces_eq (marks : Word) :
    patternPlaces marks = patternRepetition marks ++ (List.replicate 7 (patternRepetition marks)).flatten := rfl

/-- With a mark set, the burst has a lead-in. -/
theorem firstMark.marks_ne_zero {marks : Word} {f : Fin 16} (h : firstMark marks f) : marks ≠ 0 := by
  rintro rfl
  exact absurd h.1 (by simp)

/-- The words before word `f`, and those after it. -/
theorem finRange_split (f : Fin 16) :
    ∃ before later, List.finRange 16 = before ++ f :: later ∧ (∀ j ∈ before, j < f) ∧ before.length = f.val := by
  refine ⟨(List.finRange 16).take f.val, (List.finRange 16).drop (f.val + 1), ?_, fun j hj => ?_, ?_⟩
  · have here : (List.finRange 16)[f.val]'(by simp) = f := by simp
    conv_lhs => rw [← List.take_append_drop f.val (List.finRange 16), List.drop_eq_getElem_cons (by simp), here]
  · obtain ⟨i, hi, rfl⟩ := List.mem_take_iff_getElem.1 hj
    have less := (lt_min_iff.1 hi).1
    simpa [Fin.lt_def] using less
  · simp

/-- Unmarked words hold no lead-in. -/
theorem afterFirstLeadIn_unmarked (marks : Word) (before : List (Fin 16))
    (h : ∀ j ∈ before, marks.getLsbD j.val = false) (rest : List Place) :
    afterFirstLeadIn (before.flatMap (wordPlaces marks) ++ rest) = afterFirstLeadIn rest := by
  induction before with
  | nil => rfl
  | cons j before ih =>
    rw [List.flatMap_cons, wordPlaces, h j List.mem_cons_self]
    exact ih fun i hi => h i (List.mem_cons_of_mem j hi)

theorem wordPlaces_marked {marks : Word} {f : Fin 16} (h : marks.getLsbD f.val = true) :
    wordPlaces marks f = [.leadIn, .word f] := if_pos h

/-- No place of the words before `f` is word `f`. -/
theorem dropWhile_before (marks : Word) (f : Fin 16) (before : List (Fin 16)) (h : ∀ j ∈ before, j < f)
    (rest : List Place) :
    (before.flatMap (wordPlaces marks) ++ rest).dropWhile (fun x => x ≠ .word f) =
      rest.dropWhile fun x => x ≠ .word f := by
  refine List.dropWhile_append_of_pos fun x hx => ?_
  obtain ⟨j, hj, hx⟩ := List.mem_flatMap.1 hx
  have own : x = .leadIn ∨ x = .word j := by
    unfold wordPlaces at hx
    split at hx
    · simpa using hx
    · exact .inr (by simpa using hx)
  obtain rfl | rfl := own
  · rfl
  · simpa using (h j hj).ne

/-- The words of a repetition, about its first mark. -/
theorem patternRepetition_split {marks : Word} {f : Fin 16} {before later : List (Fin 16)} (h : firstMark marks f)
    (split : List.finRange 16 = before ++ f :: later) :
    patternRepetition marks =
      before.flatMap (wordPlaces marks) ++ .leadIn :: .word f :: later.flatMap (wordPlaces marks) := by
  rw [patternRepetition_eq, split, List.flatMap_append, List.flatMap_cons, wordPlaces_marked h.1]
  rfl

/-- What follows the first lead-in of a burst: the first marked word and all after it. -/
theorem afterFirstLeadIn_split {marks : Word} {f : Fin 16} {before later : List (Fin 16)} (h : firstMark marks f)
    (split : List.finRange 16 = before ++ f :: later) (less : ∀ j ∈ before, j < f) :
    afterFirstLeadIn (patternPlaces marks) =
      (.word f :: later.flatMap (wordPlaces marks)) ++ (List.replicate 7 (patternRepetition marks)).flatten := by
  rw [patternPlaces_eq]
  generalize (List.replicate 7 (patternRepetition marks)).flatten = rest
  rw [patternRepetition_split h split, List.append_assoc,
    afterFirstLeadIn_unmarked marks before fun j hj => h.2 j (less j hj)]
  rfl

/-- The aligning lead-in is taken as the one before the first marked word (R165). -/
theorem afterFirstLeadIn_places {marks : Word} {f : Fin 16} (h : firstMark marks f) :
    afterFirstLeadIn (patternPlaces marks) =
      (patternRepetition marks).dropWhile (fun x => x ≠ .word f) ++
        (List.replicate 7 (patternRepetition marks)).flatten := by
  obtain ⟨before, later, split, less, -⟩ := finRange_split f
  have aligned : (patternRepetition marks).dropWhile (fun x => x ≠ .word f) =
      .word f :: later.flatMap (wordPlaces marks) := by
    rw [patternRepetition_split h split, dropWhile_before marks f before less]
    simp
  rw [aligned, afterFirstLeadIn_split h split less]

theorem judgedPlaces_append (a b : List Place) : judgedPlaces (a ++ b) = judgedPlaces a + judgedPlaces b :=
  List.countP_append

theorem judgedPlaces_words (marks : Word) (l : List (Fin 16)) :
    judgedPlaces (l.flatMap (wordPlaces marks)) = l.length := by
  induction l with
  | nil => rfl
  | cons i l ih =>
    have one : judgedPlaces (wordPlaces marks i) = 1 := by unfold wordPlaces; split <;> rfl
    rw [List.flatMap_cons, judgedPlaces_append, ih, one, List.length_cons, Nat.add_comm]

theorem judgedPlaces_eq (ps : List Place) : judgedPlaces ps = ps.countP fun x => x ≠ .leadIn := by
  unfold judgedPlaces
  congr 1
  funext x
  cases x <;> rfl

/-- A burst with no mark judges 128 words (R165). -/
theorem patternJudged_unmarked (marks : Word) (h : marks = 0) : patternJudged marks = 128 := if_pos h

/-- A burst aligned at word `f` judges the words from `f` on (R165). -/
theorem patternJudged_marked {marks : Word} {f : Fin 16} (h : firstMark marks f) :
    patternJudged marks = 128 - f.val := by
  have rest : judgedPlaces (List.replicate 7 (patternRepetition marks)).flatten = 112 := by
    have one : judgedPlaces (patternRepetition marks) = 16 := judgedPlaces_words marks _
    simp only [List.replicate, List.flatten_cons, List.flatten_nil, judgedPlaces_append, one]
    rfl
  obtain ⟨before, later, split, less, length⟩ := finRange_split f
  have words : 16 = before.length + (later.length + 1) := by simpa using congrArg List.length split
  have own : judgedPlaces (.word f :: later.flatMap (wordPlaces marks)) = later.length + 1 := by
    rw [← List.singleton_append, judgedPlaces_append, judgedPlaces_words, Nat.add_comm]
    rfl
  rw [patternJudged, if_neg h.marks_ne_zero, afterFirstLeadIn_split h split less, judgedPlaces_append, own, rest]
  omega

end Sys2Proof.Machine
end

section
namespace Sys2Proof.Machine

/-! ## The PRBS checker (R167) -/

/-- Bit `k` of what the checker has seen, oldest first: the seven of its register, then the sixteen of the word. -/
def checkerBit (reg : BitVec 7) (w : Word) (k : Nat) : Bool :=
  if k < 7 then reg.getLsbD (6 - k) else w.getLsbD (22 - k)

/-- The bit seven places on is the exclusive-or of the two before it. -/
def checkerRight (reg : BitVec 7) (w : Word) (k : Nat) : Prop :=
  checkerBit reg w (k + 7) = (checkerBit reg w (k + 1) ^^ checkerBit reg w k)

/-- The register holds the seven bits from bit `k` on, the most recent in bit 0. -/
def registerAt (reg now : BitVec 7) (w : Word) (k : Nat) : Prop :=
  ∀ t < 7, now.getLsbD t = checkerBit reg w (k + 6 - t)

theorem prbsShift_getLsbD (reg : BitVec 7) (b : Bool) (t : Nat) (ht : t < 7) :
    (prbsShift reg b).getLsbD t = if t = 0 then b else reg.getLsbD (t - 1) := by
  unfold prbsShift
  cases t with
  | zero => cases b <;> simp
  | succ t => cases b <;> simp [ht, Nat.lt_of_succ_lt ht]

theorem registerAt.shift {reg now : BitVec 7} {w : Word} {k : Nat} (h : registerAt reg now w k) :
    registerAt reg (prbsShift now (checkerBit reg w (k + 7))) w (k + 1) := by
  intro t ht
  rw [prbsShift_getLsbD now _ t ht]
  cases t with
  | zero => rfl
  | succ t =>
    rw [if_neg (Nat.succ_ne_zero t), Nat.add_sub_cancel, h t (by omega)]
    congr 1
    omega

theorem registerAt.next {reg now : BitVec 7} {w : Word} {k : Nat} (h : registerAt reg now w k) :
    prbsNext now = (checkerBit reg w (k + 1) ^^ checkerBit reg w k) := by
  rw [prbsNext, h 5 (by decide), h 6 (by decide)]
  rfl

theorem registerAt_start (reg : BitVec 7) (w : Word) : registerAt reg reg w 0 := by
  intro t ht
  rw [checkerBit, if_pos (by omega)]
  congr 1
  omega

theorem registerAt_end {reg now : BitVec 7} {w : Word} (h : registerAt reg now w 16) : now = w.setWidth 7 := by
  ext t ht
  rw [BitVec.getElem_setWidth, ← BitVec.getLsbD_eq_getElem, h t ht, checkerBit, if_neg (by omega)]
  congr 1
  omega

/-- With the bits before bit `k` judged, the checker judges the rest, those that fill the register excepted. -/
theorem checkerBits_spec (reg : BitVec 7) (w : Word) (i k fill : Nat) (now : BitVec 7) (ok : Bool) (hk : i + k = 16)
    (h : registerAt reg now w k) :
    ((checkerBits w i fill now ok).1 = true ↔
      ok = true ∧ ∀ j, k + fill ≤ j → j < 16 → checkerRight reg w j) ∧
    (checkerBits w i fill now ok).2 = w.setWidth 7 := by
  induction i generalizing k fill now ok with
  | zero =>
    obtain rfl : k = 16 := by omega
    exact ⟨⟨fun hok => ⟨hok, fun j _ _ => by omega⟩, And.left⟩, registerAt_end h⟩
  | succ i ih =>
    have bit : w.getLsbD i = checkerBit reg w (k + 7) := by
      rw [checkerBit, if_neg (by omega)]
      congr 1
      omega
    cases fill with
    | zero =>
      obtain ⟨judged, register⟩ := ih (k + 1) 0 _ (ok && (checkerBit reg w (k + 7) == prbsNext now)) (by omega) h.shift
      rw [checkerBits, bit]
      refine ⟨judged.trans ?_, register⟩
      rw [Bool.and_eq_true, beq_iff_eq, h.next, and_assoc]
      refine and_congr_right fun _ => ⟨fun ⟨first, later⟩ j hj hj16 => ?_, fun all => ⟨all k le_rfl (by omega),
        fun j hj hj16 => all j (by omega) hj16⟩⟩
      obtain rfl | hlt := Nat.eq_or_lt_of_le hj
      · exact first
      · exact later j hlt hj16
    | succ fill =>
      obtain ⟨judged, register⟩ := ih (k + 1) fill _ ok (by omega) h.shift
      rw [checkerBits, bit]
      refine ⟨judged.trans ?_, register⟩
      rw [Nat.add_assoc, Nat.add_comm 1 fill]

/-- A group is right when each bit judged is; the first seven bits of the first group are not (R167). -/
theorem checkerGroup_right (n : Nat) (w : Word) (reg : BitVec 7) :
    (checkerGroup n w reg).1 = true ↔ ∀ k < 16, (n = 0 → 7 ≤ k) → checkerRight reg w k := by
  rw [checkerGroup, (checkerBits_spec reg w 16 0 _ reg true rfl (registerAt_start reg w)).1]
  simp only [true_and, Nat.zero_add]
  split
  · next first => exact ⟨fun h k hk hfill => h k (hfill first) hk, fun h k hfill hk => h k hk fun _ => hfill⟩
  · next later => exact ⟨fun h k hk _ => h k (Nat.zero_le k) hk, fun h k _ hk => h k hk fun e => absurd e later⟩

/-- A group leaves its last seven bits in the register. -/
theorem checkerGroup_register (n : Nat) (w : Word) (reg : BitVec 7) : (checkerGroup n w reg).2 = w.setWidth 7 :=
  (checkerBits_spec reg w 16 0 _ reg true rfl (registerAt_start reg w)).2

end Sys2Proof.Machine
end

section
namespace Sys2Proof.Machine

/-! ## A test's listen (R21, R162, R165, R167) -/

/-- `p` with the Link Check Unit as given. -/
def Part.withCheck (p : Part) (c : LinkCheck) : Part := { p with check := c }

theorem Part.burstSent_sending (p : Part) (words : List Word) (h : p.check.test = .sending words) :
    p.burstSent = p.withCheck { p.check with test := .turnaround } := by
  rw [Part.burstSent, h]
  rfl

/-- The bits of the burst of the running test (R164, R166). -/
theorem Part.listenBits_eq (p : Part) :
    p.listenBits =
      if p.check.kind = some .prbs then 144
      else 16 * (8 * (patternRepetition p.settings.active.link.patternMarks).length) := by
  have pattern : burstBits (patternBurst p.settings.active.link) =
      16 * (8 * (patternRepetition p.settings.active.link.patternMarks).length) := by
    simp only [burstBits, patternBurst, patternPlaces, List.length_map, List.length_flatten, List.map_replicate,
      List.sum_replicate, smul_eq_mul]
  rw [Part.listenBits, ← pattern]
  cases p.check.kind with
  | none => rfl
  | some k => cases k <;> rfl

theorem Part.armListen_turnaround (p : Part) (h : p.check.test = .turnaround) :
    p.armListen = p.withCheck { p.check with
      test := .listening (windowTicks p.settings.active.link p.listenBits) .seeking } := by
  rw [Part.armListen, h]
  rfl

/-- The lead-in of a listen aligns the pattern repeat at the first mark. -/
theorem Part.leadInHeard_pattern (p : Part) (ticks : Nat) (f : Fin 16) (ht : p.check.test = .listening ticks .seeking)
    (hk : p.check.kind = some .pattern) (hf : firstMark p.settings.active.link.patternMarks f) :
    p.leadInHeard = p.withCheck { p.check with
      test := .listening ticks (.pattern
        ((patternRepetition p.settings.active.link.patternMarks).dropWhile (fun x => x ≠ .word f) ++
          (List.replicate 7 (patternRepetition p.settings.active.link.patternMarks)).flatten)) } := by
  rw [Part.leadInHeard, ht, hk, ← afterFirstLeadIn_places hf]
  exact if_neg hf.marks_ne_zero

theorem Part.leadInHeard_prbs (p : Part) (ticks : Nat) (ht : p.check.test = .listening ticks .seeking)
    (hk : p.check.kind = some .prbs) :
    p.leadInHeard = p.withCheck { p.check with test := .listening ticks (.prbs 0), checker := 0 } := by
  rw [Part.leadInHeard, ht, hk]
  rfl

/-- One more of a count that stays at its maximum. -/
theorem countUp_eq_countUpBy (limit n : Nat) : countUp limit n = countUpBy limit 1 n := by
  unfold countUp countUpBy
  split <;> split <;> omega

/-- The Link Check Unit once a word is judged against its place: a lead-in is not judged. -/
def LinkCheck.placeJudged (c : LinkCheck) (l : LinkSettings) (w : Word) : Place → LinkCheck
  | .leadIn => c
  | .word i =>
    if w = l.patternWords[i] then { c with matched := countUpBy 65535 1 c.matched }
    else { c with mismatched := countUpBy 65535 1 c.mismatched }

theorem Part.countMatched_eq (p : Part) :
    p.countMatched = p.withCheck { p.check with matched := countUpBy 65535 1 p.check.matched } := by
  rw [← countUp_eq_countUpBy]
  rfl

theorem Part.judgePlace_eq (p : Part) (x : Place) (w : Word) :
    p.judgePlace x w = p.withCheck (p.check.placeJudged p.settings.active.link w x) := by
  cases x with
  | leadIn => rfl
  | word i =>
    rw [Part.judgePlace, LinkCheck.placeJudged, p.countMatched_eq]
    split <;> rfl

/-- A word of an aligned repeat is judged at its place; the listen ends with the last place (R165). -/
theorem Part.patternWord_listening (p : Part) (w : Word) (ticks : Nat) (x : Place) (rest : List Place)
    (h : p.check.test = .listening ticks (.pattern (x :: rest))) :
    let judged := p.withCheck
      { p.check.placeJudged p.settings.active.link w x with test := .listening ticks (.pattern rest) }
    p.patternWord w = if rest = [] then judged.endListen else judged := by
  rw [Part.patternWord, h]
  dsimp only
  rw [p.judgePlace_eq]
  rfl

/-- The Link Check Unit once a group is judged (R167). -/
def LinkCheck.groupJudged (c : LinkCheck) (right : Bool) : LinkCheck :=
  if right then { c with matched := countUpBy 65535 1 c.matched }
  else { c with mismatched := countUpBy 65535 1 c.mismatched }

/-- A group of a repeat is judged; the listen ends with the eighth (R167). -/
theorem Part.prbsGroup_listening (p : Part) (w : Word) (ticks n : Nat)
    (h : p.check.test = .listening ticks (.prbs n)) :
    let judged := p.withCheck (LinkCheck.groupJudged
      { p.check with test := .listening ticks (.prbs (n + 1)), checker := w.setWidth 7 }
      (checkerGroup n w p.check.checker).1)
    p.prbsGroup w = if n + 1 < 8 then judged else judged.endListen := by
  rw [Part.prbsGroup, h]
  dsimp only
  rw [checkerGroup_register, p.countMatched_eq]
  cases (checkerGroup n w p.check.checker).1 <;> rfl

/-- A closing listen window counts the words or groups left as mismatched (R165, R167). -/
theorem Part.closeListen_listening (p : Part) (ticks : Nat) (l : Listen) (n : Nat)
    (h : p.check.test = .listening ticks l) (left : p.unjudged l = n) :
    p.closeListen = (p.withCheck { p.check with mismatched := countUpBy 65535 n p.check.mismatched }).endListen := by
  rw [Part.closeListen, h, ← left]
  rfl

theorem Part.unjudged_pattern (p : Part) (places : List Place) :
    p.unjudged (.pattern places) = places.countP fun x => x ≠ .leadIn := judgedPlaces_eq places

theorem Part.unjudged_seeking_prbs (p : Part) (h : p.check.kind = some .prbs) : p.unjudged .seeking = 8 := by
  simp only [Part.unjudged, h]

theorem Part.unjudged_seeking_pattern (p : Part) (h : p.check.kind = some .pattern) :
    p.unjudged .seeking = patternJudged p.settings.active.link.patternMarks := by
  simp only [Part.unjudged, h]

/-- `p` once what was staged during a burst is active (R21). -/
def Part.listenTaken (p : Part) : Part :=
  { p with settings := { p.settings with active := { p.settings.active with
    link := p.settings.staged.link, tests := p.settings.staged.tests } } }

theorem TestEnables.given_none {t : TestEnables} (h : t.pattern = t.prbs) : t.given = none := by
  obtain ⟨pattern, prbs⟩ := t
  obtain rfl : pattern = prbs := h
  cases pattern <;> rfl

theorem TestEnables.given_some {t : TestEnables} {k : TestKind}
    (h : (k = .pattern ∧ t.pattern = true ∧ t.prbs = false) ∨ (k = .prbs ∧ t.pattern = false ∧ t.prbs = true)) :
    t.given = some k := by
  obtain ⟨rfl, on, off⟩ | ⟨rfl, off, on⟩ := h <;> rw [TestEnables.given, on, off]

theorem Part.endListen_none (p : Part) (h : p.settings.staged.tests.given = none) :
    p.endListen = p.listenTaken.endTest := by
  simp only [Part.endListen, Part.onSettings, h]
  rfl

/-- With a test given at the end of a listen, its next burst begins, or the test given begins (R162). -/
theorem Part.endListen_given (p : Part) (k : TestKind) (h : p.settings.staged.tests.given = some k) :
    p.endListen = if p.check.kind = some k then p.listenTaken.beginBurst else p.listenTaken.beginTest k := by
  simp only [Part.endListen, Part.onSettings, h]
  rfl

/-- Settles O53, event by event: what each does to the Link Check Unit, and what a listen's end does. -/
theorem testListens : Obligations.TestListens := by
  unfold Obligations.TestListens
  intro s ln
  refine ⟨fun words h => ?_, fun h _ => ?_, fun ticks h => ⟨fun hk f hf => ?_, fun hk => ?_⟩,
    fun ticks place rest w h => ?_, fun ticks n w h => ?_, fun ticks listen h => ?_, fun p => ⟨fun h => ?_, fun k h => ?_⟩⟩
  · exact s.next_part (s.part.burstSent_sending words h)
  · have armed := s.part.armListen_turnaround h
    rw [windowTicks_eq, Part.listenBits_eq] at armed
    exact s.next_part armed
  · exact s.next_part (s.part.leadInHeard_pattern ticks f h hk hf)
  · exact s.next_part (s.part.leadInHeard_prbs ticks h hk)
  · refine s.next_part (((s.part.withLines ln).patternWord_listening w ticks place rest h).trans ?_)
    cases place <;> rfl
  · have judged := (s.part.withLines ln).prbsGroup_listening w ticks n h
    refine ⟨fun hright => ?_, fun hwrong => ?_⟩
    · rw [(checkerGroup_right n w _).2 hright] at judged
      exact s.next_part judged
    · rw [Bool.eq_false_iff.2 (mt (checkerGroup_right n w _).1 hwrong)] at judged
      exact s.next_part judged
  · have closed (n : Nat) (left : (s.part.withLines ln).unjudged listen = n) :=
      s.next_part ((s.part.withLines ln).closeListen_listening ticks listen n h left)
    refine ⟨?_, ?_, ?_, ?_⟩
    · rintro places rfl
      exact closed _ (Part.unjudged_pattern _ places)
    · rintro n rfl
      exact closed _ rfl
    · rintro rfl hk
      exact closed _ (Part.unjudged_seeking_prbs _ hk)
    · rintro rfl hk
      have left := (s.part.withLines ln).unjudged_seeking_pattern hk
      exact ⟨fun hnone => closed _ (left.trans (patternJudged_unmarked _ hnone)),
        fun f hf => closed _ (left.trans (patternJudged_marked hf))⟩
  · exact p.endListen_none (TestEnables.given_none h)
  · exact p.endListen_given k (TestEnables.given_some h)

end Sys2Proof.Machine
end

/-! # The roster: the proofs of the statements about roster words, commits, pending slots and the roster law -/

section
namespace Sys2Proof.Machine

/-! ## The roster: records, commits and pending slots (R30 to R40) -/

/-- SEAT-TAKEN, said of the table: another volunteer's present shadow record names the unit and seat (R33). -/
theorem Part.seatTaken_iff (p : Part) (v : VolunteerIx) (r : Record) :
    p.seatTaken v r = true ↔ ∃ x : VolunteerIx, x ≠ v ∧ p.roster.entries[x].shadow.present = true ∧
      p.roster.entries[x].shadow.unit = r.unit ∧ p.roster.entries[x].shadow.seat = r.seat := by
  simp only [Part.seatTaken, Part.shadow, List.any_eq_true, List.mem_finRange, true_and, Bool.and_eq_true,
    decide_eq_true_eq, beq_iff_eq, and_assoc]

theorem Part.seatTaken_congr {p q : Part} (h : q.roster = p.roster) (v : VolunteerIx) (r : Record) :
    q.seatTaken v r = p.seatTaken v r := by
  simp only [Part.seatTaken, Part.shadow, h]

/-- The checks a present record goes through, in the order of R33's table. -/
theorem Part.commitCheck_present (p : Part) (v : VolunteerIx) (r : Record) (h : r.present = true) :
    p.commitCheck v r =
      if r.unit = 0 ∨ 160 < r.unit then some .unitRange
      else if 7 < r.station then some .stationRange
      else if r.tier = 0 then some .tierRange
      else if r.roles = 0 then some .noRole
      else if p.seatTaken v r then some .seatTaken
      else none := by
  rw [Part.commitCheck, if_neg (by simp [h])]

/-- A record passes exactly when it is not present, or is valid and its seat is not taken (R33). -/
theorem Part.commitCheck_eq_none_iff (p : Part) (v : VolunteerIx) (r : Record) :
    p.commitCheck v r = none ↔
      r.present = false ∨ ¬(r.unit = 0 ∨ 160 < r.unit) ∧ r.station ≤ 7 ∧ r.tier ≠ 0 ∧ r.roles ≠ 0 ∧
        ¬p.seatTaken v r = true := by
  cases h : r.present with
  | false => simp [Part.commitCheck, h]
  | true =>
    rw [Part.commitCheck_present p v r h]
    split_ifs <;> simp_all

/-- What a record applied makes of an entry (R37). -/
theorem RosterEntry.apply_eq (e : RosterEntry) (r : Record) :
    e.apply r = { e with shadow := r.toShadow
                         home := if r.toShadow.identity = e.shadow.identity then e.home else true } := by
  unfold RosterEntry.apply
  by_cases h : r.toShadow.identity = e.shadow.identity <;> simp [h]

/-- `p` with a volunteer's roster entry as given. -/
def Part.withEntry (p : Part) (v : VolunteerIx) (e : RosterEntry) : Part :=
  { p with roster := { p.roster with entries := p.roster.entries.set v e } }

theorem Part.onRosterEntry_eq (p : Part) (v : VolunteerIx) (f : RosterEntry → RosterEntry) :
    p.onRosterEntry v f = p.withEntry v (f p.roster.entries[v]) := rfl

theorem Part.applyRecord_eq (p : Part) (v : VolunteerIx) (r : Record) :
    p.applyRecord v r = p.withEntry v { p.roster.entries[v] with
      shadow := r.toShadow
      home := if r.toShadow.identity = p.roster.entries[v].shadow.identity then p.roster.entries[v].home
              else true } := by
  rw [Part.applyRecord, Part.onRosterEntry_eq, RosterEntry.apply_eq]

/-! ## The pending slot of a volunteer made FREE (R40) -/

theorem Part.actOnPending_none (p : Part) (v : VolunteerIx) (h : p.roster.entries[v].pendingRecord = none) :
    p.actOnPending v = p := by
  rw [Part.actOnPending, h]

/-- A pending record whose seat was taken meanwhile is dropped and recorded as a reject. -/
theorem Part.actOnPending_taken (p : Part) (v : VolunteerIx) (r : Record)
    (h : p.roster.entries[v].pendingRecord = some r) (hp : r.present = true) (ht : p.seatTaken v r = true) :
    p.actOnPending v =
      (p.withEntry v { p.roster.entries[v] with pendingRecord := none }).rejectKept v .seatTaken .application := by
  simp only [Part.actOnPending, h, hp, ht, Bool.and_self, if_true]
  rfl

/-- Any other pending record is applied. -/
theorem Part.actOnPending_applied (p : Part) (v : VolunteerIx) (r : Record)
    (h : p.roster.entries[v].pendingRecord = some r) (hs : (r.present && p.seatTaken v r) = false) :
    p.actOnPending v = p.withEntry v { p.roster.entries[v] with
      pendingRecord := none
      shadow := r.toShadow
      home := if r.toShadow.identity = p.roster.entries[v].shadow.identity then p.roster.entries[v].home
              else true } := by
  simp only [Part.actOnPending, h, hs, Bool.false_eq_true, if_false]
  rw [Part.applyRecord_eq, Part.onRosterEntry_eq]
  simp [Part.withEntry]

/-- Settles O24, by what the pending slot holds and whether its seat is taken. -/
theorem pendingRecordAtRelease : Obligations.PendingRecordAtRelease := by
  unfold Obligations.PendingRecordAtRelease
  intro p v e entry
  refine ⟨p.actOnPending_none v, ?_⟩
  intro r hr taken shadow
  refine ⟨fun hp ht => ?_, fun hs => ?_⟩
  · exact p.actOnPending_taken v r hr hp ((p.seatTaken_iff v r).2 ht)
  · refine p.actOnPending_applied v r hr ?_
    rw [Bool.and_eq_false_iff, Bool.eq_false_iff (b := p.seatTaken v r), Ne, p.seatTaken_iff v r]
    exact hs

/-! ## Roster words and commits (R31 to R34, R37, R38) -/

/-- Settles O21, by the index of the word. -/
theorem rosterWordStaged : Obligations.RosterWordStaged := by
  unfold Obligations.RosterWordStaged
  intro s v k w hr hm
  obtain ⟨q, hq, hrun⟩ := s.part.rosterWord v k.val (by omega) w hr hm
  refine ⟨q, hq, s.next_part (hrun.trans ?_)⟩
  match k with
  | 0 => rfl
  | 1 => rfl
  | 2 => rfl

theorem Part.commit_rejected (p : Part) (v : VolunteerIx) (w : Word) (why : RejectReason)
    (h : p.commitCheck v (p.roster.entries[v].committed w) = some why) :
    p.commit v w = p.rejectKept v why .commit := by
  simp only [Part.commit, h]
  rfl

/-- A valid commit of an engaged volunteer waits in the pending slot (R38). -/
theorem Part.commit_held (p : Part) (v : VolunteerIx) (w : Word)
    (h : p.commitCheck v (p.roster.entries[v].committed w) = none) (he : p.engagement v ≠ .free) :
    p.commit v w = p.withEntry v { p.roster.entries[v] with
      pendingRecord := some (p.roster.entries[v].committed w) } := by
  simp only [Part.commit, h]
  split
  · next free => exact absurd free he
  · rfl
  · rfl

/-- A valid commit of a FREE volunteer is applied, and an offer round follows (R37, R126). -/
theorem Part.commit_applied (p : Part) (v : VolunteerIx) (w : Word)
    (h : p.commitCheck v (p.roster.entries[v].committed w) = none) (he : p.engagement v = .free) :
    p.commit v w = (p.applyRecord v (p.roster.entries[v].committed w)).round := by
  simp only [Part.commit, h, he]

/-- Settles O22: the commit goes by the first check that fails, and a record that passes by the engagement. -/
theorem commitJudged : Obligations.CommitJudged := by
  unfold Obligations.CommitJudged
  intro s v w ln hr hm hold
  obtain ⟨q, hq, hrun⟩ := (s.part.withLines ln).rosterWord v 3 (by decide) w hr hm
  refine ⟨q, hq, ?_⟩
  intro e r taken unitOut rejected entry
  have roster : q.roster = s.part.roster := hq.roster
  have committed : q.roster.entries[v].committed w = r := by rw [roster]; rfl
  have seat : q.seatTaken v r = true ↔ taken := by
    rw [Part.seatTaken_congr (p := s.part) roster]
    exact s.part.seatTaken_iff v r
  have standing : q.engagement v = s.part.engagement v := by rw [Part.engagement, hq.engine]; rfl
  have settled {x : Part} (h : q.commit v w = x) :
      exec (.rosterCommit v w ln) s = .next { s with part := x.settle } := by
    rw [← h]
    exact s.next_part hrun
  have holding {x : Part} (h : x.scan = q.scan) : x.settle = x := by
    refine x.settle_of_holdStands ?_
    rw [Part.holdStands, h, hq.scan]
    exact hold
  have rejects (why : RejectReason) (h : q.commitCheck v r = some why) : rejected why := by
    rw [← committed] at h
    exact (settled (q.commit_rejected v w why h)).trans (s.next_part (holding rfl))
  refine ⟨fun hp => ?_, fun hvalid => ?_⟩
  · rw [q.commitCheck_present v r hp] at rejects
    refine ⟨fun hu => rejects _ (if_pos hu), fun hu hs => rejects _ ?_, fun hu hs ht => rejects _ ?_,
      fun hu hs ht hn => rejects _ ?_, fun hu hs ht hn hk => rejects _ ?_⟩
    · rw [if_neg hu, if_pos hs]
    · rw [if_neg hu, if_neg (Nat.not_lt.2 hs), if_pos ht]
    · rw [if_neg hu, if_neg (Nat.not_lt.2 hs), if_neg ht, if_pos hn]
    · rw [if_neg hu, if_neg (Nat.not_lt.2 hs), if_neg ht, if_neg hn, if_pos (seat.2 hk)]
  · have passes : q.commitCheck v r = none := by
      rw [q.commitCheck_eq_none_iff, seat]
      exact hvalid
    rw [← committed] at passes
    refine ⟨fun engaged => ?_, fun free => ?_⟩
    · have held := q.commit_held v w passes (by rwa [standing])
      rw [committed, roster] at held
      exact (settled held).trans (s.next_part (holding rfl))
    · have applied := q.commit_applied v w passes (by rwa [standing])
      rw [committed, q.applyRecord_eq, roster] at applied
      exact settled applied

/-! ## What a device reset leaves (R46, R70) -/

/-- Settles O14: each table is read off its reset value. -/
theorem resetLeavesRosterAndUnits : Obligations.ResetLeavesRosterAndUnits := by
  unfold Obligations.ResetLeavesRosterAndUnits
  intro p hp
  obtain ⟨pins, straps, mem, view, rfl⟩ := hp.restarted
  have entry (v : VolunteerIx) : Roster.initial.entries[v] = RosterEntry.initial := Vector.getElem_replicate v.isLt
  refine ⟨fun v => ⟨entry v, ?_⟩, rfl, fun u => Vector.getElem_replicate u.isLt, rfl, rfl, rfl⟩
  have absent : ((Part.restarted pins straps mem view).shadow v).present = false :=
    congrArg (fun e => e.shadow.present) (entry v)
  simp [Part.callable, absent]

end Sys2Proof.Machine
end

section
namespace Sys2Proof.Machine

/-! ## The roster law (R33, R36, R37) -/

/-- An entry's part of the law: valid records, and nothing in a shadow not present. -/
def RosterEntry.law (e : RosterEntry) : Prop :=
  e.shadow.valid ∧ (e.shadow.present = false → e.shadow = Record.absent) ∧ ∀ x, e.pendingRecord = some x → x.valid

/-- Two present records do not name one seat. -/
def Record.seatsApart (x y : Record) : Prop :=
  x.present = true → y.present = true → ¬(x.unit = y.unit ∧ x.seat = y.seat)

theorem Record.seatsApart.symm {x y : Record} (h : x.seatsApart y) : y.seatsApart x :=
  fun hy hx ⟨unit, seat⟩ => h hx hy ⟨unit.symm, seat.symm⟩

theorem Roster.law_iff (r : Roster) :
    r.law ↔ (∀ v : VolunteerIx, r.entries[v].law) ∧
      ∀ v w : VolunteerIx, v ≠ w → r.entries[v].shadow.seatsApart r.entries[w].shadow := Iff.rfl

/-- An entry changed keeps the law where the new entry has its part of it and its shadow stays off the other seats. -/
theorem Roster.law.entry {r : Roster} (h : r.law) (v : VolunteerIx) (f : RosterEntry → RosterEntry)
    (own : (f r.entries[v]).law)
    (apart : ∀ w : VolunteerIx, w ≠ v → (f r.entries[v]).shadow.seatsApart r.entries[w].shadow) :
    Roster.law { r with entries := update r.entries v f } := by
  obtain ⟨entries, seats⟩ := r.law_iff.1 h
  refine (Roster.law_iff _).2 ⟨fun w => ?_, fun w x hne => ?_⟩
  · rw [update_get]
    split
    · next e => subst e; exact own
    · exact entries w
  · simp only [update_get]
    split <;> split
    · next ew ex => exact absurd (ew.trans ex.symm) hne
    · next ew ex => subst ew; exact apart x ex
    · next ew ex => subst ex; exact (apart w ew).symm
    · exact seats w x hne

/-- A change that leaves the shadow leaves the seats. -/
theorem Roster.law.entry_of_shadow {r : Roster} (h : r.law) (v : VolunteerIx) (f : RosterEntry → RosterEntry)
    (shadow : (f r.entries[v]).shadow = r.entries[v].shadow)
    (pending : ∀ x, (f r.entries[v]).pendingRecord = some x → x.valid) :
    Roster.law { r with entries := update r.entries v f } := by
  obtain ⟨entries, seats⟩ := r.law_iff.1 h
  obtain ⟨valid, absent, -⟩ := entries v
  refine h.entry v f ⟨shadow ▸ valid, shadow ▸ absent, pending⟩ fun w hw => ?_
  rw [shadow]
  exact seats v w hw.symm

theorem Record.toShadow_present {r : Record} (h : r.present = true) : r.toShadow = r := if_pos h

theorem Record.toShadow_absent {r : Record} (h : r.present = false) : r.toShadow = Record.absent :=
  if_neg (by rw [h]; exact Bool.false_ne_true)

/-- The shadow a valid record gives is valid, and empty where it is not present. -/
theorem Record.valid.toShadow {r : Record} (h : r.valid) :
    r.toShadow.valid ∧ (r.toShadow.present = false → r.toShadow = Record.absent) := by
  cases hp : r.present with
  | true => rw [Record.toShadow_present hp]; exact ⟨h, fun e => absurd (hp.symm.trans e) (by decide)⟩
  | false => rw [Record.toShadow_absent hp]; exact ⟨Record.absent_valid, fun _ => rfl⟩

/-- A record that the commit checks pass is valid (R33). -/
theorem Part.commitCheck_valid {p : Part} {v : VolunteerIx} {r : Record} (h : p.commitCheck v r = none) : r.valid := by
  intro hp
  obtain absent | ⟨unit, station, tier, roles, -⟩ := (p.commitCheck_eq_none_iff v r).1 h
  · exact absurd (hp.symm.trans absent) (by decide)
  · exact ⟨by omega, station, tier, roles⟩

theorem Part.commitCheck_seatFree {p : Part} {v : VolunteerIx} {r : Record} (h : p.commitCheck v r = none) :
    (r.present && p.seatTaken v r) = false := by
  obtain absent | ⟨-, -, -, -, free⟩ := (p.commitCheck_eq_none_iff v r).1 h
  · rw [absent, Bool.false_and]
  · rw [Bool.eq_false_iff.2 free, Bool.and_false]

/-- The shadow of a record whose seat is free stays off the seats of the others. -/
theorem Part.seatsApart_of_seatFree {p : Part} {v : VolunteerIx} {r : Record}
    (h : (r.present && p.seatTaken v r) = false) (w : VolunteerIx) (hw : w ≠ v) :
    r.toShadow.seatsApart p.roster.entries[w].shadow := by
  cases hp : r.present with
  | false => rw [Record.toShadow_absent hp]; exact nofun
  | true =>
    rw [Record.toShadow_present hp]
    rintro - hother ⟨unit, seat⟩
    have taken := (p.seatTaken_iff v r).2 ⟨w, hw, hother, unit.symm, seat.symm⟩
    rw [hp, taken] at h
    cases h

/-- A valid record whose seat is free, applied with the pending slot kept or emptied, keeps the law (R37, R40). -/
theorem Part.applied_rosterLaw {p : Part} (h : p.roster.law) (v : VolunteerIx) (r : Record) (valid : r.valid)
    (free : (r.present && p.seatTaken v r) = false) (f : RosterEntry → RosterEntry)
    (shadow : (f p.roster.entries[v]).shadow = r.toShadow)
    (pending : ∀ x, (f p.roster.entries[v]).pendingRecord = some x → x.valid) :
    Roster.law { p.roster with entries := update p.roster.entries v f } := by
  refine h.entry v f ⟨shadow ▸ valid.toShadow.1, shadow ▸ valid.toShadow.2, pending⟩ fun w hw => ?_
  rw [shadow]
  exact Part.seatsApart_of_seatFree free w hw

/-- Of the moves, those on a roster entry, a reject and a reset touch the roster. -/
theorem Move.keeps_rosterLaw (p q : Part) (m : Move p q) (h : p.roster.law) : q.roster.law := by
  have pending (v : VolunteerIx) := ((p.roster.law_iff.1 h).1 v).2.2
  cases m with
  | stageWord v k w =>
    have same : (p.roster.entries[v].stage k w).shadow = p.roster.entries[v].shadow ∧
        (p.roster.entries[v].stage k w).pendingRecord = p.roster.entries[v].pendingRecord := by
      unfold RosterEntry.stage
      split <;> exact ⟨rfl, rfl⟩
    exact h.entry_of_shadow v _ same.1 fun x hx => pending v x (same.2.symm.trans hx)
  | setPending v r hc =>
    refine h.entry_of_shadow v _ rfl fun x hx => ?_
    cases hx
    exact Part.commitCheck_valid hc
  | clearPending v => exact h.entry_of_shadow v _ rfl nofun
  | applyCommitted v r hc =>
    exact Part.applied_rosterLaw h v r (Part.commitCheck_valid hc) (Part.commitCheck_seatFree hc) _ rfl (pending v)
  | applyPending v r hr hs =>
    have applied := Part.applied_rosterLaw h v r (pending v r hr) hs
      (fun e => RosterEntry.apply { e with pendingRecord := none } r) rfl nofun
    simpa [Part.applyRecord, update] using applied
  | home v b => exact h.entry_of_shadow v _ rfl (pending v)
  | reset b x => exact reset_rosterLaw
  | _ => exact h

/-- Settles O56: a step is a run of moves, and every move keeps the law. -/
theorem stepKeepsRoster : Obligations.StepKeepsRoster := by
  unfold Obligations.StepKeepsRoster
  intro s t hstep law
  obtain ⟨t', hnext, moves⟩ := step_moves s
  obtain rfl : t' = t := by rw [hnext] at hstep; exact Host.Outcome.next.inj hstep
  exact moves.keeps (I := fun p => p.roster.law) Move.keeps_rosterLaw law

end Sys2Proof.Machine
end

/-! # The Callout Engine: the proof that every step keeps its laws -/

section
namespace Sys2Proof.Machine

/-! ## Sums over the roles (R95, R98) -/

theorem sumRoles_eq_sum (f : RoleIx → Nat) : sumRoles f = ∑ r, f r := (Fin.sum_univ_def f).symm

theorem sumRoles_add (f g : RoleIx → Nat) : sumRoles (fun r => f r + g r) = sumRoles f + sumRoles g := by
  simp only [sumRoles_eq_sum, Finset.sum_add_distrib]

theorem sumRoles_congr {f g : RoleIx → Nat} (h : ∀ r, f r = g r) : sumRoles f = sumRoles g := congrArg _ (funext h)

/-- Two counts over the roles that differ at one role only. -/
theorem sumRoles_differ (f g : RoleIx → Nat) (r : RoleIx) (h : ∀ x, x ≠ r → f x = g x) :
    sumRoles f + g r = sumRoles g + f r := by
  have others : ∑ x ∈ Finset.univ.erase r, f x = ∑ x ∈ Finset.univ.erase r, g x :=
    Finset.sum_congr rfl fun x hx => h x (Finset.ne_of_mem_erase hx)
  rw [sumRoles_eq_sum, sumRoles_eq_sum, ← Finset.add_sum_erase _ f (Finset.mem_univ r),
    ← Finset.add_sum_erase _ g (Finset.mem_univ r), others]
  omega

/-- Each attendee holds one role or is an extra (R98). -/
theorem length_eq_extras_add_roles (l : List Attendee) :
    l.length = (l.countP fun x => x.assignment = .extra) +
      sumRoles fun r => l.countP fun x => x.assignment = .role r := by
  induction l with
  | nil => rfl
  | cons x l ih =>
    obtain ⟨v, assignment, eta⟩ := x
    rw [List.length_cons, ih]
    simp only [List.countP_cons]
    rw [sumRoles_add]
    cases assignment with
    | extra => simp [sumRoles_eq_sum]; omega
    | role r => simp [sumRoles_eq_sum]; omega

/-! ## The laws of one incident record (R95, R98 to R101, R103, R106, R107) -/

/-- The counts, the ranges and the cap: what the record's state has no part in but for being FREE. -/
def Incident.countedLaw (i : Incident) : Prop := i.countsLaw ∧ i.rangeLaw ∧ i.capLaw

/-- The state law but for when the incident is COMPLETE. -/
def Incident.steadyLaw (i : Incident) : Prop :=
  (i.state = .free → i.attendees = []) ∧
    (i.state ≠ .free → 1 ≤ i.stage ∧ i.stage ≤ 4 ∧ stageDuration i.durations i.stage ≠ 0) ∧
    (i.timer.isSome = true ↔ i.state = .calling) ∧ ∀ n, i.timer = some n → n ≤ stageDuration i.durations i.stage

/-- An open incident is COMPLETE exactly when its crew is. -/
def Incident.judgedLaw (i : Incident) : Prop := i.state ≠ .free → (i.state = .complete ↔ i.crewed = true)

/-- The laws of a record. -/
def Incident.laws (i : Incident) : Prop := i.countsLaw ∧ i.rangeLaw ∧ i.capLaw ∧ i.stateLaw

theorem Incident.laws_iff (i : Incident) : i.laws ↔ i.countedLaw ∧ i.steadyLaw ∧ i.judgedLaw := by
  simp only [Incident.laws, Incident.countedLaw, Incident.steadyLaw, Incident.judgedLaw, Incident.stateLaw]
  constructor
  · rintro ⟨counts, range, cap, empty, opened, timer, left⟩
    exact ⟨⟨counts, range, cap⟩, ⟨empty, fun h => (opened h).2, timer, left⟩, fun h => (opened h).1⟩
  · rintro ⟨⟨counts, range, cap⟩, ⟨empty, stage, timer, left⟩, judged⟩
    exact ⟨counts, range, cap, empty, fun h => ⟨judged h, stage h⟩, timer, left⟩

theorem Incident.crewed_iff (i : Incident) : i.crewed = true ↔ ∀ r : RoleIx, i.quotas[r] ≤ i.tallies[r] := by
  simp [Incident.crewed]

theorem Incident.served_iff (i : Incident) : i.served = true ↔ i.state = .calling ∨ i.state = .short := by
  simp [Incident.served]

theorem Incident.length_attendees {i : Incident} (h : i.countsLaw) :
    i.attendees.length = i.extras + sumRoles fun r => i.tallies[r] := by
  obtain ⟨tallies, extras⟩ := h
  rw [length_eq_extras_add_roles, extras, sumRoles_congr tallies]

/-! ### Judging a record (R106, R107) -/

/-- A CALLING or SHORT incident whose crew is complete becomes COMPLETE; any other stays. -/
theorem Incident.judgeComplete_cases (i : Incident) :
    i.served = true ∧ i.crewed = true ∧ i.judgeComplete = { i with state := .complete, timer := none } ∨
      ¬(i.served = true ∧ i.crewed = true) ∧ i.judgeComplete = i := by
  unfold Incident.judgeComplete Incident.completes
  simp only [Bool.and_eq_true]
  split
  · next h => exact .inl ⟨h.1, h.2, rfl⟩
  · next h => exact .inr ⟨h, rfl⟩

/-- A COMPLETE incident whose crew is not becomes CALLING with a full timer; any other stays. -/
theorem Incident.judgeReturn_cases (i : Incident) :
    i.state = .complete ∧ i.crewed = false ∧
        i.judgeReturn = { i with state := .calling, timer := some (stageDuration i.durations i.stage) } ∨
      (i.state = .complete → i.crewed = true) ∧ i.judgeReturn = i := by
  unfold Incident.judgeReturn Incident.reopens
  simp only [Bool.and_eq_true, decide_eq_true_eq, Bool.not_eq_true']
  split
  · next h => exact .inl ⟨h.1, h.2, rfl⟩
  · next h => exact .inr ⟨fun hs => by simpa [hs] using h, rfl⟩

/-- Another state, FREE only where the record was, leaves the counts. -/
theorem Incident.countedLaw.state {i : Incident} (h : i.countedLaw) (state : SlotState) (timer : Option Nat)
    (stays : state ≠ .free → i.state ≠ .free) : Incident.countedLaw { i with state := state, timer := timer } := by
  obtain ⟨counts, ⟨priority, rest⟩, cap⟩ := h
  exact ⟨counts, ⟨fun h => priority (stays h), rest⟩, fun h => cap (stays h)⟩

theorem Incident.judgeComplete_state (i : Incident) : i.judgeComplete.state = .free ↔ i.state = .free := by
  obtain ⟨served, -, e⟩ | ⟨-, e⟩ := i.judgeComplete_cases <;> rw [e]
  rw [Incident.served_iff] at served
  constructor
  · nofun
  · intro h; rw [h] at served; simp at served

theorem Incident.judgeReturn_state (i : Incident) : i.judgeReturn.state = .free ↔ i.state = .free := by
  obtain ⟨complete, -, e⟩ | ⟨-, e⟩ := i.judgeReturn_cases <;> rw [e]
  rw [complete]
  exact ⟨nofun, nofun⟩

theorem Incident.countedLaw.judgeComplete {i : Incident} (h : i.countedLaw) : i.judgeComplete.countedLaw := by
  have state := i.judgeComplete_state
  obtain ⟨-, -, e⟩ | ⟨-, e⟩ := i.judgeComplete_cases <;> rw [e] at state ⊢
  · exact h.state _ _ fun hn hf => hn (state.2 hf)
  · exact h

theorem Incident.countedLaw.judgeReturn {i : Incident} (h : i.countedLaw) : i.judgeReturn.countedLaw := by
  have state := i.judgeReturn_state
  obtain ⟨-, -, e⟩ | ⟨-, e⟩ := i.judgeReturn_cases <;> rw [e] at state ⊢
  · exact h.state _ _ fun hn hf => hn (state.2 hf)
  · exact h

theorem Incident.steadyLaw.judgeComplete {i : Incident} (h : i.steadyLaw) : i.judgeComplete.steadyLaw := by
  obtain ⟨served, -, e⟩ | ⟨-, e⟩ := i.judgeComplete_cases <;> rw [e]
  · obtain ⟨-, stage, -, -⟩ := h
    refine ⟨nofun, fun _ => stage fun free => ?_, ⟨nofun, nofun⟩, nofun⟩
    rw [Incident.served_iff, free] at served
    simp at served
  · exact h

theorem Incident.steadyLaw.judgeReturn {i : Incident} (h : i.steadyLaw) : i.judgeReturn.steadyLaw := by
  obtain ⟨complete, -, e⟩ | ⟨-, e⟩ := i.judgeReturn_cases <;> rw [e]
  · obtain ⟨-, stage, -, -⟩ := h
    refine ⟨nofun, fun _ => stage ?_, ⟨fun _ => rfl, fun _ => rfl⟩, fun n hn => ?_⟩
    · rw [complete]; exact nofun
    · cases hn; exact le_rfl
  · exact h

/-- With COMPLETE only where the crew is, the completion judgement gives both ways. -/
theorem Incident.judgeComplete_judged {i : Incident} (h : i.state = .complete → i.crewed = true) :
    i.judgeComplete.judgedLaw := by
  obtain ⟨-, crewed, e⟩ | ⟨left, e⟩ := i.judgeComplete_cases <;> rw [e]
  · exact fun _ => ⟨fun _ => crewed, fun _ => rfl⟩
  · refine fun hn => ⟨h, fun crewed => ?_⟩
    rw [Incident.served_iff] at left
    cases hs : i.state <;> simp_all

/-- With the crew complete only where the incident is, the return judgement gives both ways. -/
theorem Incident.judgeReturn_judged {i : Incident} (h : i.state ≠ .free → i.crewed = true → i.state = .complete) :
    i.judgeReturn.judgedLaw := by
  obtain ⟨-, crewed, e⟩ | ⟨right, e⟩ := i.judgeReturn_cases <;> rw [e]
  · refine fun _ => ⟨nofun, fun h => ?_⟩
    have same : i.crewed = true := h
    rw [crewed] at same
    cases same
  · exact fun hn => ⟨right, h hn⟩

/-- After the completion judgement a complete crew means COMPLETE. -/
theorem Incident.judgeComplete_complete (i : Incident) (hn : i.judgeComplete.state ≠ .free)
    (hc : i.judgeComplete.crewed = true) : i.judgeComplete.state = .complete := by
  obtain ⟨-, -, e⟩ | ⟨left, e⟩ := i.judgeComplete_cases <;> rw [e] at hn hc ⊢
  rw [Incident.served_iff] at left
  cases hs : i.state <;> simp_all

/-! ### What can happen to a record -/

/-- The better of the role found so far and another (R138). -/
def Incident.betterRole (i : Incident) (roles : BitVec 6) (best : Option RoleIx) (r : RoleIx) : Option RoleIx :=
  if roles.getLsbD r.val && 0 < i.unmet r then
    match best with
    | none => some r
    | some b => if i.unmet b < i.unmet r then some r else some b
  else best

theorem Incident.neededRole_eq (i : Incident) (roles : BitVec 6) :
    i.neededRole roles = (List.finRange 6).foldl (i.betterRole roles) none := rfl

/-- The better role is the one found so far, or the other with an unmet need. -/
theorem Incident.betterRole_cases (i : Incident) (roles : BitVec 6) (best : Option RoleIx) (r : RoleIx) :
    i.betterRole roles best r = best ∨ 0 < i.unmet r ∧ i.betterRole roles best r = some r := by
  unfold Incident.betterRole
  split
  · next h =>
    have unmet : 0 < i.unmet r := by simpa using (Bool.and_eq_true_iff.1 h).2
    split
    · exact .inr ⟨unmet, rfl⟩
    · split
      · exact .inr ⟨unmet, rfl⟩
      · exact .inl rfl
  · exact .inl rfl

/-- A role chosen for an attendee has an unmet need (R138). -/
theorem Incident.neededRole_unmet (i : Incident) (roles : BitVec 6) (r : RoleIx) (h : i.neededRole roles = some r) :
    0 < i.unmet r := by
  have kept (l : List RoleIx) : ∀ best : Option RoleIx, (∀ x, best = some x → 0 < i.unmet x) →
      ∀ x, l.foldl (i.betterRole roles) best = some x → 0 < i.unmet x := by
    induction l with
    | nil => exact fun _ hb => hb
    | cons y l ih =>
      refine fun best hb => ih _ fun x hx => ?_
      obtain e | ⟨unmet, e⟩ := i.betterRole_cases roles best y
      · exact hb x (e.symm.trans hx)
      · cases e.symm.trans hx
        exact unmet
  exact kept _ none nofun r (i.neededRole_eq roles ▸ h)

theorem Incident.assignment_role {i : Incident} {roles : BitVec 6} {r : RoleIx}
    (h : i.assignment roles = some (.role r)) : 0 < i.unmet r := by
  unfold Incident.assignment at h
  split at h
  · next r' hr => cases h; exact i.neededRole_unmet roles _ hr
  · split at h <;> cases h

/-- An EXTRA stays within the cap (R138). -/
theorem Incident.assignment_extra {i : Incident} {roles : BitVec 6} (h : i.assignment roles = some .extra) :
    i.attendees.length + i.totalUnmet < i.cap := by
  unfold Incident.assignment at h
  split at h
  · cases h
  · split at h
    · next hc => exact hc
    · cases h

theorem Incident.totalUnmet_eq (i : Incident) : i.totalUnmet = sumRoles fun r => i.quotas[r] - i.tallies[r] := rfl

/-- A tally of one role changed. -/
theorem update_tally (t : Vector Nat 6) (r x : RoleIx) (f : Nat → Nat) :
    (update t r f)[x] = if x = r then f t[x] else t[x] := update_get t r x f

/-- An attendee enlisted for a role: the tally of it rises. -/
theorem Incident.enlist_role (i : Incident) (v : VolunteerIx) (r : RoleIx) (eta : Nat) :
    i.enlist { volunteer := v, assignment := .role r, eta := eta } =
      { i with attendees := i.attendees ++ [{ volunteer := v, assignment := .role r, eta := eta }]
               tallies := update i.tallies r fun n => n + 1 } := rfl

theorem Incident.enlist_extra (i : Incident) (v : VolunteerIx) (eta : Nat) :
    i.enlist { volunteer := v, assignment := .extra, eta := eta } =
      { i with attendees := i.attendees ++ [{ volunteer := v, assignment := .extra, eta := eta }]
               extras := i.extras + 1 } := rfl

/-- An admission to a role whose need is not met keeps the counts. -/
theorem Incident.countedLaw.enlist_role {i : Incident} (h : i.countedLaw) (v : VolunteerIx) (r : RoleIx) (eta : Nat)
    (need : 0 < i.unmet r) :
    (i.enlist { volunteer := v, assignment := .role r, eta := eta }).countedLaw := by
  obtain ⟨⟨tallies, extras⟩, range, cap⟩ := h
  rw [Incident.enlist_role]
  refine ⟨⟨fun x => ?_, ?_⟩, range, fun hn => ?_⟩
  · rw [update_tally, List.countP_append, tallies x]
    by_cases e : x = r
    · simp [e]
    · simp [e, Ne.symm e]
  · simp [extras]
  · obtain ⟨fits, most⟩ := cap hn
    refine ⟨?_, most⟩
    have change := sumRoles_differ (fun x => i.quotas[x] - (update i.tallies r fun n => n + 1)[x])
      (fun x => i.quotas[x] - i.tallies[x]) r fun x hx => by rw [update_tally, if_neg hx]
    simp only [update_tally, if_pos] at change
    rw [Incident.totalUnmet_eq] at fits ⊢
    simp only [List.length_append, List.length_singleton, update_tally]
    unfold Incident.unmet at need
    omega

/-- An EXTRA within the cap keeps the counts. -/
theorem Incident.countedLaw.enlist_extra {i : Incident} (h : i.countedLaw) (v : VolunteerIx) (eta : Nat)
    (room : i.attendees.length + i.totalUnmet < i.cap) :
    (i.enlist { volunteer := v, assignment := .extra, eta := eta }).countedLaw := by
  obtain ⟨⟨tallies, extras⟩, range, cap⟩ := h
  rw [Incident.enlist_extra]
  refine ⟨⟨fun x => ?_, ?_⟩, range, fun hn => ⟨?_, (cap hn).2⟩⟩
  · simp [tallies x]
  · simp [extras]
  · rw [Incident.totalUnmet_eq] at room ⊢
    simp only [List.length_append, List.length_singleton]
    omega

/-- Enlisting in an open incident touches nothing of its state. -/
theorem Incident.steadyLaw.enlist {i : Incident} (h : i.steadyLaw) (x : Attendee) (hn : i.state ≠ .free) :
    (i.enlist x).steadyLaw := by
  obtain ⟨-, stage, timer⟩ := h
  obtain ⟨v, assignment, eta⟩ := x
  cases assignment with
  | role r => exact ⟨fun e => absurd e hn, stage, timer⟩
  | extra => exact ⟨fun e => absurd e hn, stage, timer⟩

/-- What an attendee's removal leaves: the record as it was, or without one entry and with its count one less. -/
theorem Incident.remove_cases (i : Incident) (v : VolunteerIx) :
    i.entryOf v = none ∧ i.remove v = i ∨
      ∃ x, i.entryOf v = some x ∧ x ∈ i.attendees ∧ x.volunteer = v ∧
        ((∃ r, x.assignment = .role r ∧
            i.remove v = { i with attendees := i.attendees.erase x, tallies := update i.tallies r fun n => n - 1 }) ∨
          x.assignment = .extra ∧
            i.remove v = { i with attendees := i.attendees.erase x, extras := i.extras - 1 }) := by
  unfold Incident.remove
  cases he : i.entryOf v with
  | none => exact .inl ⟨rfl, rfl⟩
  | some x =>
    refine .inr ⟨x, rfl, List.mem_of_find?_eq_some he, by simpa using List.find?_some he, ?_⟩
    cases ha : x.assignment with
    | role r => exact .inl ⟨r, rfl, by simp only [ha]⟩
    | extra => exact .inr ⟨rfl, by simp only [ha]⟩

/-- A removal keeps the counts. -/
theorem Incident.countedLaw.remove {i : Incident} (h : i.countedLaw) (v : VolunteerIx) : (i.remove v).countedLaw := by
  obtain ⟨-, e⟩ | ⟨x, -, mem, -, ⟨r, ha, e⟩ | ⟨ha, e⟩⟩ := i.remove_cases v <;> rw [e]
  · exact h
  · obtain ⟨⟨tallies, extras⟩, range, cap⟩ := h
    have counted (y : RoleIx) : (i.attendees.erase x).countP (fun z => z.assignment = .role y) =
        i.tallies[y] - if y = r then 1 else 0 := by
      rw [List.countP_erase, ← tallies y]
      by_cases e : y = r
      · simp [e, mem, ha]
      · simp [e, ha, Ne.symm e]
    refine ⟨⟨fun y => ?_, ?_⟩, range, fun hn => ?_⟩
    · rw [update_tally, counted]
      split <;> rfl
    · rw [extras, List.countP_erase]
      simp [ha]
    · obtain ⟨fits, most⟩ := cap hn
      refine ⟨?_, most⟩
      have change := sumRoles_differ (fun x => i.quotas[x] - (update i.tallies r fun n => n - 1)[x])
        (fun x => i.quotas[x] - i.tallies[x]) r fun x hx => by rw [update_tally, if_neg hx]
      simp only [update_tally, if_pos] at change
      have length := List.length_erase_of_mem mem
      have listed := List.length_pos_of_mem mem
      rw [Incident.totalUnmet_eq] at fits ⊢
      simp only [update_tally]
      omega
  · obtain ⟨⟨tallies, extras⟩, range, cap⟩ := h
    refine ⟨⟨fun y => ?_, ?_⟩, range, fun hn => ?_⟩
    · rw [List.countP_erase, ← tallies y]
      simp [ha]
    · rw [List.countP_erase, ← extras]
      simp [ha, mem]
    · obtain ⟨fits, most⟩ := cap hn
      refine ⟨?_, most⟩
      have length := List.length_erase_of_mem mem
      rw [Incident.totalUnmet_eq] at fits ⊢
      simp only
      omega

/-- A removal touches nothing of the state, and completes no crew. -/
theorem Incident.remove_state (i : Incident) (v : VolunteerIx) :
    (i.remove v).state = i.state ∧ ((i.remove v).crewed = true → i.crewed = true) := by
  obtain ⟨-, e⟩ | ⟨x, -, -, -, ⟨r, -, e⟩ | ⟨-, e⟩⟩ := i.remove_cases v <;> rw [e]
  · exact ⟨rfl, id⟩
  · refine ⟨rfl, fun h => i.crewed_iff.2 fun y => (((Incident.crewed_iff _).1 h) y).trans ?_⟩
    rw [update_tally]
    split
    · exact Nat.sub_le _ _
    · exact le_rfl
  · exact ⟨rfl, id⟩

theorem Incident.steadyLaw.remove {i : Incident} (h : i.steadyLaw) (v : VolunteerIx) : (i.remove v).steadyLaw := by
  obtain ⟨-, e⟩ | ⟨x, -, -, -, ⟨r, -, e⟩ | ⟨-, e⟩⟩ := i.remove_cases v <;> rw [e]
  · exact h
  all_goals
    obtain ⟨empty, stage, timer⟩ := h
    refine ⟨fun free => ?_, stage, timer⟩
    simp [empty free]

/-- The first used stage at or after a stage is a stage, and used (R101). -/
theorem usedStageFrom_some {d : Vector Nat 4} {stage k : Nat} (h : usedStageFrom d stage = some k) :
    1 ≤ k ∧ k ≤ 4 ∧ stageDuration d k ≠ 0 := by
  have used := List.find?_some h
  have listed := List.mem_of_find?_eq_some h
  simp only [Bool.and_eq_true, decide_eq_true_eq] at used
  simp only [List.mem_cons, List.not_mem_nil, or_false] at listed
  exact ⟨by omega, by omega, used.2⟩

/-- The next stage, or SHORT, keeps the laws of a CALLING incident (R104). -/
theorem Incident.laws.advance {i : Incident} (h : i.laws) (calling : i.state = .calling) : i.advance.laws := by
  obtain ⟨counted, ⟨empty, stage, timer, left⟩, judged⟩ := i.laws_iff.1 h
  have opened : i.state ≠ .free := by rw [calling]; exact nofun
  have short : i.crewed = true → False := fun hc => by
    have := (judged opened).2 hc
    rw [calling] at this
    cases this
  refine (Incident.laws_iff _).2 ?_
  unfold Incident.advance
  split
  · next k hk =>
    refine ⟨counted, ⟨fun e => absurd e opened, fun _ => usedStageFrom_some hk, ⟨fun _ => calling, fun _ => rfl⟩,
      fun n hn => ?_⟩, judged⟩
    cases hn
    exact le_rfl
  · exact ⟨counted.state _ _ fun _ => opened, ⟨nofun, fun _ => stage opened, ⟨nofun, nofun⟩, nofun⟩,
      fun _ => ⟨nofun, fun hc => (short hc).elim⟩⟩

/-- A timer second keeps the laws (R103). -/
theorem Incident.laws.tick {i : Incident} (h : i.laws) : i.tick.laws := by
  unfold Incident.tick
  split
  · next n state timer =>
    obtain ⟨counts, range, cap, empty, opened, -, left⟩ := h
    refine ⟨counts, range, cap, empty, opened, ⟨fun _ => state, fun _ => rfl⟩, fun m hm => ?_⟩
    cases hm
    exact (Nat.le_succ n).trans (left _ timer)
  · exact h

/-- The room an AMEND asks for is the attendees and the need under the new quotas (R111). -/
theorem Incident.amendFloor_eq {i : Incident} (h : i.countsLaw) (st : Staging) :
    i.amendFloor st = (i.amended st).attendees.length + (i.amended st).totalUnmet := by
  have room : ∀ r : RoleIx,
      max i.tallies[r] (st.quotas[r]).toNat = i.tallies[r] + ((st.quotas[r]).toNat - i.tallies[r]) :=
    fun r => by omega
  have quota : ∀ r : RoleIx, (i.amended st).quotas[r] = (st.quotas[r]).toNat := fun r => by
    simp [Incident.amended, Staging.quotaNumbers]
  have tally : ∀ r : RoleIx, (i.amended st).tallies[r] = i.tallies[r] := fun _ => rfl
  have length : (i.amended st).attendees.length = i.extras + sumRoles fun r => i.tallies[r] :=
    Incident.length_attendees h
  rw [length, Incident.totalUnmet_eq, Incident.amendFloor, sumRoles_congr room, sumRoles_add]
  simp only [quota, tally, Nat.add_assoc]

/-- An AMEND within its conditions keeps the laws (R111, R112, R106, R107). -/
theorem Incident.laws.amend {i : Incident} (h : i.laws) (st : Staging)
    (priority : st.priority.toNat ≠ 0 ∧ st.priority.toNat ≤ 3) (most : st.cap.toNat ≤ 31)
    (room : i.amendFloor st ≤ st.cap.toNat) : (i.amended st).judgeComplete.judgeReturn.laws := by
  obtain ⟨⟨counts, range, cap⟩, steady, judged⟩ := i.laws_iff.1 h
  rw [Incident.amendFloor_eq counts] at room
  have counted : (i.amended st).countedLaw :=
    ⟨counts, ⟨fun _ => ⟨Nat.pos_of_ne_zero priority.1, priority.2⟩, range.2⟩, fun _ => ⟨room, most⟩⟩
  have kept : (i.amended st).steadyLaw := steady
  exact (Incident.laws_iff _).2 ⟨counted.judgeComplete.judgeReturn, kept.judgeComplete.judgeReturn,
    Incident.judgeReturn_judged (Incident.judgeComplete_complete _)⟩

/-- Every move of a record keeps its laws, and whether it is FREE. -/
theorem IncidentMove.keeps_laws {i j : Incident} (m : IncidentMove i j) (h : i.laws) :
    j.laws ∧ (j.state = .free ↔ i.state = .free) := by
  obtain ⟨counted, steady, judged⟩ := i.laws_iff.1 h
  cases m with
  | admitRole v r eta roles opened chosen =>
    have need := Incident.assignment_role chosen
    refine ⟨(Incident.laws_iff _).2 ⟨(counted.enlist_role v r eta need).judgeComplete,
      (steady.enlist _ opened).judgeComplete, Incident.judgeComplete_judged fun complete => ?_⟩,
      Incident.judgeComplete_state _⟩
    have crewed := i.crewed_iff.1 ((judged opened).1 complete) r
    unfold Incident.unmet at need
    omega
  | admitExtra v eta roles opened chosen =>
    exact ⟨(Incident.laws_iff _).2 ⟨counted.enlist_extra v eta (Incident.assignment_extra chosen),
      steady.enlist _ opened, judged⟩, Iff.rfl⟩
  | remove v =>
    obtain ⟨state, crewed⟩ := i.remove_state v
    refine ⟨(Incident.laws_iff _).2 ⟨(counted.remove v).judgeReturn, (steady.remove v).judgeReturn,
      Incident.judgeReturn_judged fun opened hc => ?_⟩, (Incident.judgeReturn_state _).trans (by rw [state])⟩
    rw [state] at opened ⊢
    exact (judged opened).2 (crewed hc)
  | advance calling =>
    refine ⟨h.advance calling, ?_⟩
    unfold Incident.advance
    split
    · exact Iff.rfl
    · rw [calling]; exact ⟨nofun, nofun⟩
  | amend st opened priority demand most room =>
    exact ⟨h.amend st priority most room, (Incident.judgeReturn_state _).trans (Incident.judgeComplete_state _)⟩
  | tick =>
    refine ⟨h.tick, ?_⟩
    unfold Incident.tick
    split <;> exact Iff.rfl
  | offer =>
    obtain ⟨counts, ⟨priority, offers, rest⟩, others⟩ := h
    exact ⟨⟨counts, ⟨priority, countUp_le 255 _ offers, rest⟩, others⟩, Iff.rfl⟩
  | decline =>
    obtain ⟨counts, ⟨priority, offers, declines, rest⟩, others⟩ := h
    exact ⟨⟨counts, ⟨priority, offers, countUp_le 255 _ declines, rest⟩, others⟩, Iff.rfl⟩
  | turnedBack =>
    obtain ⟨counts, ⟨priority, offers, declines, turned, rest⟩, others⟩ := h
    exact ⟨⟨counts, ⟨priority, offers, declines, countUp_le 255 _ turned, rest⟩, others⟩, Iff.rfl⟩

/-! ## The records and the age order (R97) -/

/-- The age order lists the open slots, and every record has its laws. -/
def Engine.recordsLaw (e : Engine) : Prop := e.ageLaw ∧ ∀ k : Slot, (e.incidents[k]).laws

/-- A record changed keeps the law where it keeps its own laws and stays as open as it was. -/
theorem Engine.recordsLaw.incident {e : Engine} (h : e.recordsLaw) (k : Slot) (f : Incident → Incident)
    (own : (f e.incidents[k]).laws) (state : (f e.incidents[k]).state = .free ↔ e.incidents[k].state = .free) :
    Engine.recordsLaw { e with incidents := update e.incidents k f } := by
  obtain ⟨⟨once, listed⟩, records⟩ := h
  refine ⟨⟨once, fun x => (listed x).trans ?_⟩, fun x => ?_⟩
  · simp only [update_get]
    split
    · next hx => subst hx; exact not_congr state.symm
    · exact Iff.rfl
  · simp only [update_get]
    split
    · next hx => subst hx; exact own
    · exact records x

/-- What the conditions of R108 leave of the staged values. -/
theorem Part.openCheck_none {p : Part} (h : p.openCheck = none) :
    (1 ≤ p.bus.staging.priority.toNat ∧ p.bus.staging.priority.toNat ≤ 3) ∧ p.bus.staging.demand ≠ 0 ∧
      p.bus.staging.demand ≤ p.bus.staging.cap.toNat ∧ p.bus.staging.cap.toNat ≤ 31 := by
  unfold Part.openCheck at h
  dsimp only at h
  split_ifs at h with running station priority stage demand cap
  exact ⟨by omega, demand, by omega⟩

/-- An incident opened within the conditions of R108 has the laws of a record (R109). -/
theorem Incident.opened_laws (i : Incident) (st : Staging) (x : Settings) (number : Word) (k : Nat)
    (priority : 1 ≤ st.priority.toNat ∧ st.priority.toNat ≤ 3) (demand : st.demand ≠ 0)
    (cap : st.demand ≤ st.cap.toNat ∧ st.cap.toNat ≤ 31)
    (stage : 1 ≤ k ∧ k ≤ 4 ∧ stageDuration (stationDurations x.durations st.station.toNat) k ≠ 0) :
    (i.opened st x number k).laws := by
  have tally (r : RoleIx) : (i.opened st x number k).tallies[r] = 0 := Vector.getElem_replicate r.isLt
  have quota (r : RoleIx) : (i.opened st x number k).quotas[r] = (st.quotas[r]).toNat := by
    simp [Incident.opened, Incident.startTimer, Staging.quotaNumbers]
  have unmet : (i.opened st x number k).totalUnmet = st.demand := by
    rw [Incident.totalUnmet_eq, Staging.demand]
    exact sumRoles_congr fun r => by rw [tally, quota, Nat.sub_zero]
  have uncrewed : ¬(i.opened st x number k).crewed = true := by
    rw [Incident.crewed_iff]
    intro all
    refine demand ?_
    rw [Staging.demand, sumRoles_eq_sum]
    refine Finset.sum_eq_zero fun r _ => ?_
    rw [← quota]
    exact Nat.le_zero.1 (tally r ▸ all r)
  refine ⟨⟨fun r => (tally r).trans rfl, rfl⟩, ⟨fun _ => priority, Nat.zero_le _, Nat.zero_le _, Nat.zero_le _,
    Nat.zero_le _⟩, fun _ => ⟨?_, cap.2⟩, nofun, fun _ => ⟨⟨nofun, fun hc => (uncrewed hc).elim⟩, stage⟩,
    ⟨fun _ => rfl, fun _ => rfl⟩, fun n hn => ?_⟩
  · rw [unmet]
    exact (Nat.zero_add _).le.trans cap.1
  · cases hn
    exact le_rfl

/-- An OPEN keeps the law: the slot joins the age order with a record of its own (R109). -/
theorem Part.openSlot_recordsLaw {p : Part} (h : p.engine.recordsLaw) (s : Slot) (k : Nat) (hc : p.openCheck = none)
    (hs : p.isOpen s = false)
    (hk : usedStageFrom (stationDurations p.settings.active.durations p.bus.staging.station.toNat)
      p.bus.staging.startStage.toNat = some k) : (p.openSlot s k).engine.recordsLaw := by
  obtain ⟨⟨once, listed⟩, records⟩ := h
  obtain ⟨priority, demand, cap⟩ := Part.openCheck_none hc
  have free : p.engine.incidents[s].state = .free := by
    simpa [Part.isOpen, Part.incident, -Fin.getElem_fin] using of_decide_eq_false hs
  have unlisted : s ∉ p.engine.age := fun hm => (listed s).1 hm free
  refine ⟨⟨?_, fun x => ?_⟩, fun x => ?_⟩
  · exact List.nodup_append.2 ⟨once, List.nodup_singleton s, fun a ha b hb e => by
      rw [List.mem_singleton] at hb
      exact unlisted (hb ▸ e ▸ ha)⟩
  · simp only [Part.openSlot, Part.onEngine, List.mem_append, List.mem_singleton, update_get]
    split
    · next e => exact ⟨fun _ => nofun, fun _ => .inr e⟩
    · next e => rw [← listed x]; exact or_iff_left e
  · simp only [Part.openSlot, Part.onEngine, update_get]
    split
    · exact Incident.opened_laws _ _ _ _ _ priority demand cap (usedStageFrom_some hk)
    · exact records x

/-- A closed record has the laws of a FREE slot (R114). -/
theorem Incident.close_laws (i : Incident) : i.close.laws := by
  have tally (r : RoleIx) : i.close.tallies[r] = 0 := Vector.getElem_replicate r.isLt
  exact ⟨⟨fun r => (tally r).trans rfl, rfl⟩, ⟨fun h => absurd rfl h, Nat.zero_le _, Nat.zero_le _, Nat.zero_le _,
    Nat.zero_le _⟩, fun h => absurd rfl h, fun _ => rfl, fun h => absurd rfl h, ⟨nofun, nofun⟩, nofun⟩

/-- A close keeps the law: the slot leaves the age order and becomes FREE (R114). -/
theorem Part.freeIncident_recordsLaw {p : Part} (h : p.engine.recordsLaw) (s : Slot) :
    (p.freeIncident s).engine.recordsLaw := by
  obtain ⟨⟨once, listed⟩, records⟩ := h
  refine ⟨⟨once.filter _, fun x => ?_⟩, fun x => ?_⟩
  · simp only [Part.freeIncident, Part.onEngine, List.mem_filter, decide_eq_true_eq, update_get]
    split
    · next e => exact ⟨fun hx => absurd e hx.2, fun hn => absurd rfl hn⟩
    · next e => rw [← listed x]; exact and_iff_left e
  · simp only [Part.freeIncident, Part.onEngine, update_get]
    split
    · exact Incident.close_laws _
    · exact records x

theorem Incident.laws.clearUnreachable {i : Incident} (h : i.laws) : i.clearUnreachable.laws := by
  obtain ⟨counts, ⟨priority, offers, declines, turned, -⟩, others⟩ := h
  exact ⟨counts, ⟨priority, offers, declines, turned, Nat.zero_le _⟩, others⟩

theorem Incident.laws.countUnreachable {i : Incident} (h : i.laws) (room : i.unreachable < 240) :
    i.countUnreachable.laws := by
  obtain ⟨counts, ⟨priority, offers, declines, turned, -⟩, others⟩ := h
  exact ⟨counts, ⟨priority, offers, declines, turned, room⟩, others⟩

/-- Of the moves, those on an incident, an OPEN, a close, the two of the unreachable counts and a reset touch what the
law reads. -/
theorem Move.keeps_recordsLaw (p q : Part) (m : Move p q) (h : p.engine.recordsLaw) : q.engine.recordsLaw := by
  cases m with
  | incident s f hf =>
    obtain ⟨own, state⟩ := hf.keeps_laws (h.2 s)
    exact h.incident s f own state
  | openSlot s k hc hs hk => exact Part.openSlot_recordsLaw h s k hc hs hk
  | freeIncident s => exact Part.freeIncident_recordsLaw h s
  | clearUnreachable =>
    obtain ⟨⟨once, listed⟩, records⟩ := h
    have cleared (k : Slot) : p.clearUnreachable.engine.incidents[k] = (p.engine.incidents[k]).clearUnreachable := by
      simp [Part.clearUnreachable, Part.onEngine]
    refine ⟨⟨once, fun k => ?_⟩, fun k => ?_⟩
    · rw [cleared]; exact listed k
    · rw [cleared]; exact (records k).clearUnreachable
  | unreachable s room => exact h.incident s _ ((h.2 s).countUnreachable (room h.1.1)) Iff.rfl
  | reset b x =>
    refine ⟨reset_ageLaw, fun k => ?_⟩
    have fresh : (p.resetBlocks b x).engine.incidents[k] = Incident.initial := reset_incident k
    rw [fresh]
    exact Incident.initial_laws
  | _ => exact h

end Sys2Proof.Machine
end

section
namespace Sys2Proof.Machine

/-! ## Engagements and pending slots (R39, R98, R122, R123) -/

/-- The pending record of a volunteer (R38). -/
def Part.pendingOf (p : Part) (v : VolunteerIx) : Option Record := p.roster.entries[v].pendingRecord

/-- The engagements as they stand within an event: the volunteers `freed` may still hold a pending record that the event
has to act on (R40), and a slot of `untrimmed` may still have offers that its trim has to withdraw (R133). -/
structure Part.engaged (p : Part) (freed : List VolunteerIx) (untrimmed : List Slot) : Prop where
  attends : ∀ v s, p.engagement v = .attending s ↔ ∃ x ∈ (p.incident s).attendees, x.volunteer = v
  offers : ∀ v s, p.engagement v = .offered s →
    (p.incident s).served = true ∨ s ∈ untrimmed ∧ (p.incident s).crewed = true
  once : ∀ s, ((p.incident s).attendees.map Attendee.volunteer).Nodup
  empty : ∀ s, (p.incident s).state = .free → (p.incident s).attendees = []
  pending : ∀ v, p.pendingOf v ≠ none → p.engagement v = .free → v ∈ freed

/-- Between events the engagements are the laws of the table and the engine (R39, R98, R122, R123). -/
theorem Part.engaged_iff (p : Part) :
    p.engaged [] [] ↔ p.engine.engagementLaw ∧ p.pendingLaw ∧
      ∀ s : Slot, (p.incident s).state = .free → (p.incident s).attendees = [] := by
  constructor
  · rintro ⟨attends, offers, once, empty, pending⟩
    refine ⟨⟨fun v s => ⟨attends v s, fun h => ?_⟩, once⟩,
      fun v hv hf => absurd (pending v hv hf) List.not_mem_nil, empty⟩
    obtain served | ⟨listed, -⟩ := offers v s h
    · exact served
    · cases listed
  · rintro ⟨⟨both, once⟩, pending, empty⟩
    exact ⟨fun v s => (both v s).1, fun v s h => .inl ((both v s).2 h), once, empty,
      fun v hv hf => absurd hf (pending v hv)⟩

/-! ### Reading the part after an update -/

theorem Part.engagement_onStanding (p : Part) (v : VolunteerIx) (f : Standing → Standing) (w : VolunteerIx) :
    (p.onStanding v f).engagement w = if w = v then (f p.engine.standing[w]).engagement else p.engagement w := by
  simp only [Part.engagement, Part.onStanding_engine, update_get]
  split <;> rfl

theorem Part.engagement_setFree (p : Part) (v w : VolunteerIx) :
    (p.setFree v).engagement w = if w = v then .free else p.engagement w := p.engagement_onStanding v _ w

theorem Part.engagement_addDeclined (p : Part) (v w : VolunteerIx) (s : Slot) :
    (p.addDeclined v s).engagement w = p.engagement w := by
  rw [Part.addDeclined, Part.engagement_onStanding]
  split <;> rfl

theorem Part.incident_onIncident (p : Part) (s : Slot) (f : Incident → Incident) (t : Slot) :
    (p.onIncident s f).incident t = if t = s then f (p.incident t) else p.incident t := update_get _ _ _ _

theorem Part.pendingOf_withEntry (p : Part) (v w : VolunteerIx) (e : RosterEntry) :
    (p.withEntry v e).pendingOf w = if w = v then e.pendingRecord else p.pendingOf w := by
  have read : (p.withEntry v e).roster.entries[w] = if w = v then e else p.roster.entries[w] :=
    update_get p.roster.entries v w fun _ => e
  rw [Part.pendingOf, read]
  split <;> rfl

theorem Part.pendingOf_actOnPending (p : Part) (v w : VolunteerIx) :
    (p.actOnPending v).pendingOf w = if w = v then none else p.pendingOf w := by
  cases hv : p.roster.entries[v].pendingRecord with
  | none =>
    rw [p.actOnPending_none v hv]
    split
    · next e => rw [e]; exact hv
    · rfl
  | some r =>
    cases hs : r.present && p.seatTaken v r with
    | true =>
      rw [Bool.and_eq_true] at hs
      rw [p.actOnPending_taken v r hv hs.1 hs.2]
      exact p.pendingOf_withEntry v w _
    | false =>
      rw [p.actOnPending_applied v r hv hs]
      exact p.pendingOf_withEntry v w _

/-! ### What keeps the engagements -/

/-- The record keeps its attendees, stays served where it was, and becomes FREE only where it was. -/
def Incident.carries (i j : Incident) : Prop :=
  j.attendees = i.attendees ∧ (i.served = true → j.served = true) ∧ (j.state = .free → i.state = .free)

theorem Incident.carries_refl (i : Incident) : i.carries i := ⟨rfl, id, id⟩
theorem Incident.carries_countOffer (i : Incident) : i.carries i.countOffer := ⟨rfl, id, id⟩
theorem Incident.carries_countDecline (i : Incident) : i.carries i.countDecline := ⟨rfl, id, id⟩
theorem Incident.carries_countTurnedBack (i : Incident) : i.carries i.countTurnedBack := ⟨rfl, id, id⟩
theorem Incident.carries_countUnreachable (i : Incident) : i.carries i.countUnreachable := ⟨rfl, id, id⟩
theorem Incident.carries_clearUnreachable (i : Incident) : i.carries i.clearUnreachable := ⟨rfl, id, id⟩
theorem Incident.carries_amended (i : Incident) (st : Staging) : i.carries (i.amended st) := ⟨rfl, id, id⟩

section
variable {p q : Part} {freed : List VolunteerIx} {untrimmed : List Slot}

/-- The law reads engagements, attendee lists, states and pending slots. -/
theorem Part.engaged.congr (h : p.engaged freed untrimmed) (engagement : ∀ v, q.engagement v = p.engagement v)
    (incident : ∀ s, (p.incident s).carries (q.incident s))
    (crewed : ∀ s ∈ untrimmed, (p.incident s).crewed = true → (q.incident s).crewed = true)
    (pending : ∀ v, q.pendingOf v = p.pendingOf v) : q.engaged freed untrimmed where
  attends v s := by rw [engagement, (incident s).1]; exact h.attends v s
  offers v s hv := by
    rw [engagement] at hv
    obtain served | ⟨listed, manned⟩ := h.offers v s hv
    · exact .inl ((incident s).2.1 served)
    · exact .inr ⟨listed, crewed s listed manned⟩
  once s := by rw [(incident s).1]; exact h.once s
  empty s hs := by rw [(incident s).1]; exact h.empty s ((incident s).2.2 hs)
  pending v hv hf := h.pending v (pending v ▸ hv) (engagement v ▸ hf)

/-- Work that touches neither engine nor roster. -/
theorem Part.engaged.frame (h : p.engaged freed untrimmed) (engine : q.engine = p.engine)
    (roster : q.roster = p.roster) : q.engaged freed untrimmed := by
  have incident (s : Slot) : q.incident s = p.incident s := by rw [Part.incident, engine]; rfl
  refine h.congr (fun v => by rw [Part.engagement, engine]; rfl) (fun s => ?_) (fun s _ => ?_)
    (fun v => by rw [Part.pendingOf, roster]; rfl)
  · rw [incident]; exact Incident.carries_refl _
  · rw [incident]; exact id

theorem Part.engaged.mono (h : p.engaged freed untrimmed) {freed' : List VolunteerIx} (sub : freed ⊆ freed') :
    p.engaged freed' untrimmed :=
  ⟨h.attends, h.offers, h.once, h.empty, fun v hv hf => sub (h.pending v hv hf)⟩

/-- One record changed. -/
theorem Part.engaged.onIncident (h : p.engaged freed []) (s : Slot) (f : Incident → Incident)
    (hf : (p.incident s).carries (f (p.incident s))) : (p.onIncident s f).engaged freed [] := by
  refine h.congr (fun _ => rfl) (fun t => ?_) nofun (fun _ => rfl)
  rw [Part.incident_onIncident]
  split
  · next e => subst e; exact hf
  · exact Incident.carries_refl _

/-- One roster entry changed, its pending slot as it was. -/
theorem Part.engaged.onRosterEntry (h : p.engaged freed untrimmed) (v : VolunteerIx) (f : RosterEntry → RosterEntry)
    (hf : (f p.roster.entries[v]).pendingRecord = p.roster.entries[v].pendingRecord) :
    (p.onRosterEntry v f).engaged freed untrimmed := by
  refine h.congr (fun _ => rfl) (fun _ => Incident.carries_refl _) (fun _ _ => id) fun w => ?_
  rw [Part.onRosterEntry_eq, Part.pendingOf_withEntry]
  split
  · next e => rw [e]; exact hf
  · rfl

theorem Part.engaged.tell (h : p.engaged freed untrimmed) (v : VolunteerIx) (m : Message) :
    (p.tell v m).engaged freed untrimmed := h.frame (by simp) (by simp)

theorem Part.engaged.report (h : p.engaged freed untrimmed) (x : Source) : (p.report x).engaged freed untrimmed :=
  h.frame rfl rfl

theorem Part.engaged.addDeclined (h : p.engaged freed untrimmed) (v : VolunteerIx) (s : Slot) :
    (p.addDeclined v s).engaged freed untrimmed :=
  h.congr (fun w => p.engagement_addDeclined v w s) (fun _ => Incident.carries_refl _) (fun _ _ => id) fun _ => rfl

/-- A volunteer who does not attend takes an engagement other than attending. -/
theorem Part.engaged.engage (h : p.engaged freed untrimmed) {v : VolunteerIx} {e : Engagement}
    (engagement : ∀ w, q.engagement w = if w = v then e else p.engagement w)
    (incident : ∀ s, q.incident s = p.incident s) (pending : ∀ w, q.pendingOf w = p.pendingOf w)
    (away : ∀ s, p.engagement v ≠ .attending s) (still : ∀ s, e ≠ .attending s)
    (offered : ∀ s, e = .offered s → (p.incident s).served = true)
    {freed' : List VolunteerIx} (sub : freed ⊆ freed') (listed : e = .free → v ∈ freed') :
    q.engaged freed' untrimmed where
  attends w s := by
    rw [engagement, incident, ← h.attends w s]
    split
    · next ew => subst ew; exact ⟨fun hw => absurd hw (still s), fun hw => absurd hw (away s)⟩
    · exact Iff.rfl
  offers w s hw := by
    rw [engagement] at hw
    rw [incident]
    split at hw
    · exact .inl (offered s hw)
    · exact h.offers w s hw
  once s := by rw [incident]; exact h.once s
  empty s := by rw [incident]; exact h.empty s
  pending w hw hf := by
    rw [engagement] at hf
    rw [pending] at hw
    split at hf
    · next ew => subst ew; exact listed hf
    · exact sub (h.pending w hw hf)

/-- A volunteer who does not attend becomes FREE; the pending slot waits to be acted on. -/
theorem Part.engaged.setFree (h : p.engaged freed untrimmed) (v : VolunteerIx)
    (away : ∀ s, p.engagement v ≠ .attending s) : (p.setFree v).engaged (v :: freed) untrimmed :=
  h.engage (p.engagement_setFree v) (fun _ => rfl) (fun _ => rfl) away nofun nofun (List.subset_cons_self v freed)
    fun _ => List.mem_cons_self

/-- A FREE volunteer set FREE. -/
theorem Part.engaged.setFree_free (h : p.engaged freed untrimmed) (v : VolunteerIx) (free : p.engagement v = .free) :
    (p.setFree v).engaged freed untrimmed := by
  refine h.congr (fun w => ?_) (fun _ => Incident.carries_refl _) (fun _ _ => id) (fun _ => rfl)
  rw [Part.engagement_setFree]
  split
  · next e => rw [e, free]
  · rfl

/-- The pending slot of a volunteer made FREE is acted on (R40). -/
theorem Part.engaged.actOnPending {v : VolunteerIx} (h : p.engaged (v :: freed) untrimmed) :
    (p.actOnPending v).engaged freed untrimmed := by
  have engine : (p.actOnPending v).engine = p.engine := by simp
  have incident (s : Slot) : (p.actOnPending v).incident s = p.incident s := by rw [Part.incident, engine]; rfl
  have engagement (w : VolunteerIx) : (p.actOnPending v).engagement w = p.engagement w := by
    rw [Part.engagement, engine]; rfl
  refine ⟨fun w s => ?_, fun w s => ?_, fun s => ?_, fun s => ?_, fun w hw hf => ?_⟩
  · rw [engagement, incident]; exact h.attends w s
  · rw [engagement, incident]; exact h.offers w s
  · rw [incident]; exact h.once s
  · rw [incident]; exact h.empty s
  · rw [Part.pendingOf_actOnPending] at hw
    split at hw
    · exact absurd rfl hw
    · next e => exact (List.mem_cons.1 (h.pending w hw (engagement w ▸ hf))).resolve_left e

theorem Part.engaged.actOnPendings (l : List VolunteerIx) : ∀ {p : Part}, p.engaged (l ++ freed) untrimmed →
    (p.actOnPendings l).engaged freed untrimmed := by
  induction l with
  | nil => exact fun h => h
  | cons v l ih => exact fun h => ih h.actOnPending

end

/-! ### The offer round (R126 to R130) -/

section
variable {p : Part} {freed : List VolunteerIx}

/-- A volunteer's winner is CALLING or SHORT (R127). -/
theorem Part.winner_served {v : VolunteerIx} {s : Slot} (h : p.winner v = some s) : (p.incident s).served = true := by
  have mem : s ∈ p.qualifying v := List.mem_of_head? h
  simp only [Part.qualifying, List.mem_flatMap, List.mem_filter, Bool.and_eq_true] at mem
  obtain ⟨k, -, -, qualifies, -⟩ := mem
  simp only [Part.qualifies, Bool.and_eq_true] at qualifies
  exact qualifies.1.1.1

theorem Part.engaged.offer (h : p.engaged freed []) (v : VolunteerIx) (s : Slot)
    (away : ∀ t, p.engagement v ≠ .attending t) (served : (p.incident s).served = true) :
    (p.offer v s).engaged freed [] := by
  have offered : (p.onStanding v fun x => { x with engagement := .offered s }).engaged freed [] :=
    h.engage (q := p.onStanding v fun x => { x with engagement := .offered s }) (p.engagement_onStanding v _)
      (fun _ => rfl) (fun _ => rfl) away nofun (fun t e => by cases e; exact served) (List.Subset.refl _) nofun
  exact (offered.onIncident s Incident.countOffer (Incident.carries_countOffer _)).tell v _

theorem Part.engaged.countOutOfReach (h : p.engaged freed []) (l : List Slot) :
    (p.countOutOfReach l).engaged freed [] := by
  induction l generalizing p with
  | nil => exact h
  | cons s l ih => exact ih (h.onIncident s Incident.countUnreachable (Incident.carries_countUnreachable _))

theorem Part.engaged.judgeVolunteer (h : p.engaged freed []) (v : VolunteerIx) :
    (p.judgeVolunteer v).engaged freed [] := by
  unfold Part.judgeVolunteer
  split
  · split
    · exact h
    · next free =>
      have away (t : Slot) : p.engagement v ≠ .attending t := by rw [free]; exact nofun
      split
      · exact h.countOutOfReach _
      · split
        · next s hs => exact h.offer v s away (Part.winner_served hs)
        · exact h
    · next t offered =>
      have away (t : Slot) : p.engagement v ≠ .attending t := by rw [offered]; exact nofun
      dsimp only
      split
      · exact h.countOutOfReach _
      · split
        · next s hs =>
          split
          · exact h.offer v s away (Part.winner_served hs)
          · exact h
        · exact h
  · exact h

theorem Part.engaged.round (h : p.engaged freed []) : p.round.engaged freed [] := by
  have judged (l : List VolunteerIx) : ∀ {q : Part}, q.engaged freed [] →
      (l.foldl Part.judgeVolunteer q).engaged freed [] := by
    induction l with
    | nil => exact fun hq => hq
    | cons v l ih => exact fun hq => ih (hq.judgeVolunteer v)
  refine judged _ (h.congr (fun _ => rfl) (fun s => ?_) nofun fun _ => rfl)
  have cleared : p.clearUnreachable.incident s = (p.incident s).clearUnreachable := by
    simp [Part.clearUnreachable, Part.onEngine, Part.incident]
  rw [cleared]
  exact Incident.carries_clearUnreachable _

theorem Part.engaged.roundIf (h : p.engaged freed []) (cause : Bool) : (p.roundIf cause).engaged freed [] := by
  unfold Part.roundIf
  split
  · exact h.round
  · exact h

end

/-! ### Withdrawals and trims (R131 to R133) -/

section
variable {p : Part} {freed : List VolunteerIx} {untrimmed : List Slot}

theorem Part.engagement_standDownFree (p : Part) (v w : VolunteerIx) :
    (p.standDownFree v).engagement w = if w = v then .free else p.engagement w := by
  rw [Part.standDownFree, Part.engagement_setFree]
  simp only [Part.engagement, Part.tell_engine]

/-- Volunteers made FREE one by one. -/
theorem Part.engagement_foldl (f : Part → VolunteerIx → Part)
    (hf : ∀ (p : Part) (v w : VolunteerIx), (f p v).engagement w = if w = v then .free else p.engagement w)
    (l : List VolunteerIx) (p : Part) (w : VolunteerIx) :
    (l.foldl f p).engagement w = if w ∈ l then .free else p.engagement w := by
  induction l generalizing p with
  | nil => rfl
  | cons v l ih =>
    rw [List.foldl_cons, ih, hf]
    by_cases hv : w = v <;> by_cases hl : w ∈ l <;> simp [hv, hl]

/-- Volunteers who do not attend made FREE one by one; their pending slots wait to be acted on. -/
theorem Part.engaged.foldl_free (f : Part → VolunteerIx → Part)
    (hf : ∀ (p : Part) (v w : VolunteerIx), (f p v).engagement w = if w = v then .free else p.engagement w)
    (step : ∀ (p : Part) (freed : List VolunteerIx) (v : VolunteerIx), p.engaged freed untrimmed →
      (∀ s, p.engagement v ≠ .attending s) → (f p v).engaged (v :: freed) untrimmed)
    (h : p.engaged freed untrimmed) (l : List VolunteerIx) (away : ∀ v ∈ l, ∀ s, p.engagement v ≠ .attending s) :
    (l.foldl f p).engaged (l ++ freed) untrimmed := by
  induction l generalizing p freed with
  | nil => exact h
  | cons v l ih =>
    refine (ih (step p freed v h (away v List.mem_cons_self)) fun w hw s => ?_).mono fun w hw => ?_
    · rw [hf]
      split
      · exact nofun
      · exact away w (List.mem_cons_of_mem v hw) s
    · simp only [List.mem_append, List.mem_cons] at hw ⊢
      tauto

theorem Part.mem_surplus (p : Part) (s : Slot) (v : VolunteerIx) :
    v ∈ p.surplus s ↔ p.engagement v = .offered s ∧ (p.incident s).needs (p.shadow v).roles = false := by
  simp [Part.surplus, volunteersWhere]

/-- An incident whose crew is complete needs nobody. -/
theorem Incident.needs_of_crewed {i : Incident} (h : i.crewed = true) (roles : BitVec 6) : i.needs roles = false := by
  rw [Incident.crewed_iff] at h
  rw [Bool.eq_false_iff, Ne, Incident.needs, List.any_eq_true]
  rintro ⟨r, -, need⟩
  have unmet : 0 < i.unmet r := by simpa using (Bool.and_eq_true_iff.1 need).2
  exact absurd unmet (Nat.not_lt.2 (Nat.sub_eq_zero_of_le (h r)).le)

/-- A trim withdraws every offer of a slot whose crew is complete. -/
theorem Part.engaged.trim {s : Slot} (h : p.engaged freed (s :: untrimmed)) : (p.trim s).engaged freed untrimmed := by
  have step (q : Part) (freed : List VolunteerIx) (v : VolunteerIx) (hq : q.engaged freed (s :: untrimmed))
      (away : ∀ t, q.engagement v ≠ .attending t) : (q.standDownFree v).engaged (v :: freed) (s :: untrimmed) :=
    (hq.tell v _).setFree v fun t => by
      have := away t
      rwa [Part.engagement, Part.tell_engine]
  have withdrawn := h.foldl_free Part.standDownFree Part.engagement_standDownFree step (p.surplus s) fun v hv t => by
    rw [((p.mem_surplus s v).1 hv).1]
    exact nofun
  have incident (t : Slot) : ((p.surplus s).foldl Part.standDownFree p).incident t = p.incident t :=
    foldl_keeps (fun q => q.incident t) Part.standDownFree
      (fun q v => by simp [Part.incident, Part.standDownFree, Part.setFree]) _ _
  refine Part.engaged.actOnPendings (p.surplus s) ⟨withdrawn.attends, fun v t hv => ?_, withdrawn.once,
    withdrawn.empty, withdrawn.pending⟩
  rw [Part.engagement_foldl _ Part.engagement_standDownFree] at hv
  rw [incident]
  split at hv
  · cases hv
  · next kept =>
    obtain served | ⟨listed, crewed⟩ := h.offers v t hv
    · exact .inl served
    · obtain rfl | later := List.mem_cons.1 listed
      · exact absurd ((p.mem_surplus t v).2 ⟨hv, Incident.needs_of_crewed crewed _⟩) kept
      · exact .inr ⟨later, crewed⟩

/-- The completion judgement leaves the offers of a completed incident to its trim (R106, R133). -/
theorem Part.engaged.judgeComplete (h : p.engaged freed []) (s : Slot) : (p.judgeComplete s).engaged freed [s] := by
  have weaker : p.engaged freed [s] :=
    ⟨h.attends, fun v t hv => (h.offers v t hv).imp_right fun x => absurd x.1 List.not_mem_nil, h.once, h.empty,
      h.pending⟩
  unfold Part.judgeComplete
  split
  · next completes =>
    refine Part.engaged.report ?_ _
    have judged (t : Slot) : (p.onIncident s Incident.judgeComplete).incident t =
        if t = s then { p.incident t with state := .complete, timer := none } else p.incident t := by
      rw [Part.incident_onIncident]
      split
      · next e => rw [Incident.judgeComplete, if_pos (e ▸ completes)]
      · rfl
    have crewed : (p.incident s).crewed = true := (Bool.and_eq_true_iff.1 completes).2
    refine ⟨fun v t => ?_, fun v t hv => ?_, fun t => ?_, fun t ht => ?_, h.pending⟩
    · rw [judged]
      exact (h.attends v t).trans (by split <;> exact Iff.rfl)
    · rw [judged]
      split
      · next e => subst e; exact .inr ⟨List.mem_singleton_self t, crewed⟩
      · exact weaker.offers v t hv
    · rw [judged]
      have := h.once t
      split <;> exact this
    · rw [judged] at ht ⊢
      split at ht
      · cases ht
      · next e => rw [if_neg e]; exact h.empty t ht
  · exact weaker

/-- The return judgement serves an incident again (R107). -/
theorem Part.engaged.judgeReturn (h : p.engaged freed untrimmed) (s : Slot) :
    (p.judgeReturn s).engaged freed untrimmed := by
  unfold Part.judgeReturn
  split
  · refine Part.engaged.report (p := p.onIncident s Incident.judgeReturn)
      (h.congr (fun _ => rfl) (fun t => ?_) (fun t _ => ?_) fun _ => rfl) _
    · rw [Part.incident_onIncident]
      split
      · obtain ⟨complete, -, e⟩ | ⟨-, e⟩ := (p.incident t).judgeReturn_cases <;> rw [e]
        · exact ⟨rfl, fun _ => rfl, nofun⟩
        · exact Incident.carries_refl _
      · exact Incident.carries_refl _
    · rw [Part.incident_onIncident]
      split
      · obtain ⟨-, -, e⟩ | ⟨-, e⟩ := (p.incident t).judgeReturn_cases <;> rw [e] <;> exact id
      · exact id
  · exact h

end

/-! ### Removals and admissions (R98, R132, R138) -/

section
variable {p : Part} {freed : List VolunteerIx}

/-- A removal takes the volunteer out of the list, and nobody else. -/
theorem Incident.mem_remove {i : Incident} (once : (i.attendees.map Attendee.volunteer).Nodup) (v w : VolunteerIx) :
    (∃ x ∈ (i.remove v).attendees, x.volunteer = w) ↔ w ≠ v ∧ ∃ x ∈ i.attendees, x.volunteer = w := by
  obtain ⟨gone, e⟩ | ⟨x, -, mem, hx, left⟩ := i.remove_cases v
  · rw [e]
    refine ⟨fun hw => ⟨?_, hw⟩, And.right⟩
    rintro rfl
    obtain ⟨y, hy, hyw⟩ := hw
    have unlike := List.find?_eq_none.1 gone y hy
    simp [hyw] at unlike
  · have list : (i.remove v).attendees = i.attendees.erase x := by
      obtain ⟨r, -, e⟩ | ⟨-, e⟩ := left <;> rw [e]
    have same (y : Attendee) (hy : y ∈ i.attendees) : y = x ↔ y.volunteer = v :=
      ⟨fun e => e ▸ hx, fun e => List.inj_on_of_nodup_map once hy mem (e.trans hx.symm)⟩
    rw [list]
    simp only [(List.Nodup.of_map _ once).mem_erase_iff]
    constructor
    · rintro ⟨y, ⟨hne, hy⟩, rfl⟩
      exact ⟨fun e => hne ((same y hy).2 e), y, hy, rfl⟩
    · rintro ⟨hne, y, hy, rfl⟩
      exact ⟨y, ⟨fun e => hne ((same y hy).1 e), hy⟩, rfl⟩

theorem Incident.once_remove {i : Incident} (once : (i.attendees.map Attendee.volunteer).Nodup) (v : VolunteerIx) :
    ((i.remove v).attendees.map Attendee.volunteer).Nodup := by
  obtain ⟨-, e⟩ | ⟨x, -, -, -, ⟨r, -, e⟩ | ⟨-, e⟩⟩ := i.remove_cases v <;> rw [e]
  · exact once
  all_goals exact once.sublist (List.erase_sublist.map _)

/-- An attendee removed and made FREE; the pending slot waits to be acted on. -/
theorem Part.engaged.removeAttendee (h : p.engaged freed []) {v : VolunteerIx} {s : Slot}
    (attending : p.engagement v = .attending s) : (p.removeAttendee v s).engaged (v :: freed) [] := by
  refine Part.engaged.judgeReturn ?_ s
  have incident (t : Slot) : ((p.onIncident s fun i => i.remove v).setFree v).incident t =
      if t = s then (p.incident t).remove v else p.incident t := p.incident_onIncident s _ t
  have engagement (w : VolunteerIx) : ((p.onIncident s fun i => i.remove v).setFree v).engagement w =
      if w = v then .free else p.engagement w := Part.engagement_setFree _ v w
  refine ⟨fun w t => ?_, fun w t hw => ?_, fun t => ?_, fun t ht => ?_, fun w hw hf => ?_⟩
  · rw [engagement, incident]
    split
    · next ew =>
      subst ew
      split
      · rw [Incident.mem_remove (h.once t)]
        exact ⟨nofun, fun x => absurd rfl x.1⟩
      · next et =>
        rw [← h.attends w t, attending]
        exact ⟨nofun, fun e => absurd (Engagement.attending.inj e).symm et⟩
    · next ew =>
      rw [h.attends w t]
      split
      · rw [Incident.mem_remove (h.once t)]
        exact (and_iff_right ew).symm
      · exact Iff.rfl
  · rw [engagement] at hw
    rw [incident]
    split at hw
    · cases hw
    · refine (h.offers w t hw).imp (fun served => ?_) fun x => absurd x.1 List.not_mem_nil
      split
      · rw [Incident.served_iff, ((p.incident t).remove_state v).1]
        exact (Incident.served_iff _).1 served
      · exact served
  · rw [incident]
    split
    · exact Incident.once_remove (h.once t) v
    · exact h.once t
  · rw [incident] at ht ⊢
    split at ht
    · next et =>
      rw [((p.incident t).remove_state v).1] at ht
      have empty := h.empty t ht
      obtain ⟨x, mem, -⟩ := (h.attends v s).1 attending
      rw [← et, empty] at mem
      cases mem
    · next et => rw [if_neg et]; exact h.empty t ht
  · rw [engagement] at hf
    split at hf
    · next ew => exact ew ▸ List.mem_cons_self
    · exact List.mem_cons_of_mem v (h.pending w hw hf)

theorem Incident.enlist_attendees (i : Incident) (x : Attendee) :
    (i.enlist x).attendees = i.attendees ++ [x] ∧ (i.enlist x).state = i.state := by
  obtain ⟨v, assignment, eta⟩ := x
  cases assignment <;> exact ⟨rfl, rfl⟩

/-- A volunteer who attends nothing joins an open incident's list. -/
theorem Part.engaged.attend (h : p.engaged freed []) (v : VolunteerIx) (s : Slot) (a : Assignment) (eta : Nat)
    (away : ∀ t, p.engagement v ≠ .attending t) (opened : (p.incident s).state ≠ .free) :
    ((p.onIncident s fun i => i.enlist { volunteer := v, assignment := a, eta := eta }).onStanding v
      fun x => { x with engagement := .attending s }).engaged freed [] := by
  have engagement (w : VolunteerIx) :
      ((p.onIncident s fun i => i.enlist { volunteer := v, assignment := a, eta := eta }).onStanding v
        fun x => { x with engagement := .attending s }).engagement w =
      if w = v then .attending s else p.engagement w := Part.engagement_onStanding _ v _ w
  have incident (t : Slot) :
      ((p.onIncident s fun i => i.enlist { volunteer := v, assignment := a, eta := eta }).onStanding v
        fun x => { x with engagement := .attending s }).incident t =
      if t = s then (p.incident t).enlist { volunteer := v, assignment := a, eta := eta } else p.incident t :=
    p.incident_onIncident s _ t
  have outside (t : Slot) (x : Attendee) (hx : x ∈ (p.incident t).attendees) : x.volunteer ≠ v :=
    fun e => away t ((h.attends v t).2 ⟨x, hx, e⟩)
  obtain enlisted := fun t : Slot => (p.incident t).enlist_attendees { volunteer := v, assignment := a, eta := eta }
  refine ⟨fun w t => ?_, fun w t hw => ?_, fun t => ?_, fun t ht => ?_, fun w hw hf => ?_⟩
  · rw [engagement, incident]
    by_cases ew : w = v
    · subst ew
      by_cases et : t = s
      · subst et
        rw [if_pos rfl, if_pos rfl, (enlisted t).1]
        exact ⟨fun _ => ⟨_, List.mem_append_right _ List.mem_cons_self, rfl⟩, fun _ => rfl⟩
      · rw [if_pos rfl, if_neg et, ← h.attends w t]
        exact ⟨fun e => absurd (Engagement.attending.inj e).symm et, fun e => absurd e (away t)⟩
    · rw [if_neg ew, h.attends w t]
      split
      · rw [(enlisted t).1]
        simp only [List.mem_append, List.mem_singleton, or_and_right, exists_or, exists_eq_left]
        exact (or_iff_left (Ne.symm ew)).symm
      · exact Iff.rfl
  · rw [engagement] at hw
    rw [incident]
    split at hw
    · cases hw
    · refine (h.offers w t hw).imp (fun served => ?_) fun x => absurd x.1 List.not_mem_nil
      split
      · rw [Incident.served_iff, (enlisted t).2]
        exact (Incident.served_iff _).1 served
      · exact served
  · rw [incident]
    split
    · rw [(enlisted t).1, List.map_append]
      refine List.nodup_append.2 ⟨h.once t, List.nodup_singleton _, fun x hx y hy e => ?_⟩
      obtain ⟨z, hz, rfl⟩ := List.mem_map.1 hx
      exact outside t z hz (e.trans (List.mem_singleton.1 hy))
    · exact h.once t
  · rw [incident] at ht ⊢
    split at ht
    · next et => exact absurd ((enlisted t).2.symm.trans ht) (et ▸ opened)
    · next et => rw [if_neg et]; exact h.empty t ht
  · rw [engagement] at hf
    split at hf
    · cases hf
    · exact h.pending w hw hf

/-- An admission with its trim (R138, R133). -/
theorem Part.engaged.enlist (h : p.engaged freed []) (v : VolunteerIx) (s : Slot) (a : Assignment) (eta : Nat)
    (away : ∀ t, p.engagement v ≠ .attending t) (opened : (p.incident s).state ≠ .free) :
    (p.enlist v s a eta).engaged freed [] := by
  have attends := (h.attend v s a eta away opened).report .attendTaken
  cases a with
  | role r => exact (attends.judgeComplete s).trim
  | extra => exact attends

end

end Sys2Proof.Machine
end

section
namespace Sys2Proof.Machine

/-! ### Seat events (7.4) -/

section
variable {p : Part}

/-- A volunteer with another engagement attends nothing. -/
theorem Part.away_of_free {v : VolunteerIx} (h : p.engagement v = .free) (t : Slot) :
    p.engagement v ≠ .attending t := by rw [h]; exact nofun

theorem Part.away_of_offered {v : VolunteerIx} {s : Slot} (h : p.engagement v = .offered s) (t : Slot) :
    p.engagement v ≠ .attending t := by rw [h]; exact nofun

/-- A volunteer who does not attend leaves a slot for good; the pending slot waits to be acted on. -/
theorem Part.engaged.leave {freed : List VolunteerIx} (h : p.engaged freed []) (v : VolunteerIx) (s : Slot)
    (m : Message) (away : ∀ t, p.engagement v ≠ .attending t) :
    (((p.tell v m).addDeclined v s).setFree v).engaged (v :: freed) [] := by
  refine ((h.tell v m).addDeclined v s).setFree v fun t => ?_
  have := away t
  rwa [Part.engagement_addDeclined, Part.engagement, Part.tell_engine]

theorem Part.engaged.turnBack (h : p.engaged [] []) (v : VolunteerIx) (s : Slot)
    (away : ∀ t, p.engagement v ≠ .attending t) : (p.turnBack v s).engaged [] [] := by
  unfold Part.turnBack
  dsimp only
  split
  · next free =>
    have left : ((p.tell v .standDown).addDeclined v s).engagement v = .free := by
      rw [Part.engagement_addDeclined, Part.engagement, Part.tell_engine]
      exact free
    have told := ((h.tell v .standDown).addDeclined v s).setFree_free v left
    exact told.onIncident s Incident.countTurnedBack (Incident.carries_countTurnedBack _)
  · have counted := (h.leave v s .standDown away).onIncident s Incident.countTurnedBack
      (Incident.carries_countTurnedBack _)
    exact counted.actOnPending.round

theorem Part.engaged.alertAgain {freed : List VolunteerIx} (h : p.engaged freed []) (v : VolunteerIx) (s : Slot) :
    (p.alertAgain v s).engaged freed [] := h.tell v _

theorem Part.engaged.countStale {freed : List VolunteerIx} (h : p.engaged freed []) : p.countStale.engaged freed [] :=
  h.congr (fun _ => rfl) (fun _ => Incident.carries_refl _) nofun fun _ => rfl

theorem Part.engaged.attendAdmit (h : p.engaged [] []) (v : VolunteerIx) (s : Slot) (eta : Nat)
    (away : ∀ t, p.engagement v ≠ .attending t) (opened : (p.incident s).state ≠ .free) :
    (p.attendAdmit v s eta).engaged [] [] := by
  unfold Part.attendAdmit
  split
  · exact h.turnBack v s away
  · next a _ =>
    have joined := h.enlist v s a eta away opened
    dsimp only
    split
    · exact (joined.alertAgain v s).roundIf _
    · exact joined.roundIf _

theorem Part.engaged.takeAttend (h : p.engaged [] []) (v : VolunteerIx) (eta : Nat) (s : Slot) (g : BitVec 4) :
    (p.takeAttend v eta s g).engaged [] [] := by
  unfold Part.takeAttend
  split
  · next t offered =>
    split
    · next names => exact h.attendAdmit v s eta (Part.away_of_offered offered) (p.names_open s g names.2)
    · exact h.countStale.alertAgain v t
  · next t _ =>
    split
    · exact h
    · exact h.countStale.alertAgain v t
  · next free =>
    split
    · next names => exact h.attendAdmit v s eta (Part.away_of_free free) (p.names_open s g names.1)
    · exact h.countStale.tell v _

theorem Part.engaged.declineOffer (h : p.engaged [] []) (v : VolunteerIx) (s : Slot)
    (away : ∀ t, p.engagement v ≠ .attending t) : (p.declineOffer v s).engaged [] [] := by
  have left := h.leave v s .standDown away
  have counted := left.onIncident s Incident.countDecline (Incident.carries_countDecline _)
  exact ((counted.report .declineTaken).actOnPending).round

theorem Part.engaged.declineAttendance (h : p.engaged [] []) {v : VolunteerIx} {s : Slot}
    (attending : p.engagement v = .attending s) : (p.declineAttendance v s).engaged [] [] := by
  have left := ((h.removeAttendee attending).tell v .standDown).addDeclined v s
  have counted := left.onIncident s Incident.countDecline (Incident.carries_countDecline _)
  exact ((counted.report .declineTaken).actOnPending).round

theorem Part.engaged.takeDecline (h : p.engaged [] []) (v : VolunteerIx) (s : Slot) (g : BitVec 4) :
    (p.takeDecline v s g).engaged [] [] := by
  unfold Part.takeDecline
  split
  · next t offered =>
    split
    · exact h.declineOffer v s (Part.away_of_offered offered)
    · exact h.countStale.alertAgain v t
  · next t attending =>
    split
    · next names => exact h.declineAttendance (names.1 ▸ attending)
    · exact h.countStale.alertAgain v t
  · exact h.countStale

theorem Part.engaged.setHome (h : p.engaged [] []) (v : VolunteerIx) (on : Bool) : (p.setHome v on).engaged [] [] :=
  h.onRosterEntry v _ rfl

theorem Part.engaged.takeEvent (h : p.engaged [] []) (v : VolunteerIx) (e : SeatEvent) :
    (p.takeEvent v e).engaged [] [] := by
  cases e with
  | none => exact h
  | attend eta s g => exact h.takeAttend v eta s g
  | decline s g => exact h.takeDecline v s g
  | availOff =>
    simp only [Part.takeEvent, Part.takeAvailOff]
    split
    · next s offered => exact (h.setHome v false).declineOffer v s (Part.away_of_offered (s := s) offered)
    · exact h.setHome v false
    · exact h.setHome v false
  | availOn => exact (h.setHome v true).roundIf _

theorem Part.engaged.onUnit (h : p.engaged [] []) (u : UnitIx) (f : UnitEntry → UnitEntry) :
    (p.onUnit u f).engaged [] [] := h.frame rfl rfl

theorem Part.engaged.judgeEvent (h : p.engaged [] []) (u : UnitIx) (s : Seat) (w : Word) :
    (p.judgeEvent u s w).engaged [] [] := by
  unfold Part.judgeEvent
  dsimp only
  split
  · exact h
  · split
    · exact h.onUnit u _
    · split
      · exact (h.onUnit u _).takeEvent _ _
      · exact (h.onUnit u _).countStale

/-! ### Stages, unit enables and commits (R50, R51, R104, R148, R32) -/

theorem Incident.carries_advance (i : Incident) : i.carries i.advance := by
  unfold Incident.advance
  split
  · exact ⟨rfl, id, id⟩
  · exact ⟨rfl, fun _ => rfl, nofun⟩

theorem Part.engaged.expireStage (h : p.engaged [] []) (s : Slot) :
    (p.expireStage s).engaged [] [] := by
  have advanced := h.onIncident s Incident.advance (Incident.carries_advance _)
  unfold Part.expireStage
  dsimp only
  split
  · exact (advanced.report _).round
  · exact advanced.report _

theorem Part.mem_offeredAt {u : UnitIx} {v : VolunteerIx} (h : v ∈ p.offeredAt u) :
    ∃ s, p.engagement v = .offered s := by
  simp only [Part.offeredAt, volunteersWhere, List.mem_filter, Bool.and_eq_true] at h
  obtain ⟨-, -, offered⟩ := h
  split at offered
  · next s hs => exact ⟨s, hs⟩
  · cases offered

theorem Part.engaged.unitDisabled (h : p.engaged [] []) (u : UnitIx) : (p.unitDisabled u).engaged [] [] := by
  have withdrawn := h.foldl_free Part.setFree Part.engagement_setFree
    (fun q freed v hq away => hq.setFree v away) (p.offeredAt u) fun v hv => by
      obtain ⟨s, hs⟩ := Part.mem_offeredAt hv
      exact Part.away_of_offered hs
  exact (Part.engaged.actOnPendings _ withdrawn).roundIf _

theorem Part.engaged.takeEnable (h : p.engaged [] []) (u : UnitIx) : (p.takeEnable u).engaged [] [] := by
  unfold Part.takeEnable
  dsimp only
  split
  · exact h
  · split
    · exact (h.onUnit u _).round
    · exact (h.onUnit u _).unitDisabled u

/-- What every step of a fold keeps, the fold keeps. -/
theorem Part.engaged.foldl {α : Type} (f : Part → α → Part)
    (hf : ∀ {q : Part} (a : α), q.engaged [] [] → (f q a).engaged [] []) (h : p.engaged [] []) (l : List α) :
    (l.foldl f p).engaged [] [] := by
  induction l generalizing p with
  | nil => exact h
  | cons a l ih => exact ih (hf a h)

theorem Part.engaged.takeEnables (h : p.engaged [] []) : p.takeEnables.engaged [] [] :=
  Part.engaged.foldl Part.takeEnable (fun u hq => hq.takeEnable u) h _

theorem Part.engaged.commit (h : p.engaged [] []) (v : VolunteerIx) (w : Word) : (p.commit v w).engaged [] [] := by
  cases hc : p.commitCheck v (p.roster.entries[v].committed w) with
  | some why =>
    rw [p.commit_rejected v w why hc]
    exact h.congr (fun _ => rfl) (fun _ => Incident.carries_refl _) nofun fun _ => rfl
  | none =>
    by_cases free : p.engagement v = .free
    · rw [p.commit_applied v w hc free]
      exact (h.onRosterEntry v _ rfl).round
    · rw [p.commit_held v w hc free]
      refine ⟨h.attends, h.offers, h.once, h.empty, fun x hx hf => ?_⟩
      rw [Part.pendingOf_withEntry] at hx
      split at hx
      · next e => exact absurd (e ▸ hf) free
      · exact h.pending x hx hf

/-! ### Requests (chapters 6 and 7) -/

theorem Part.engaged.openSlot (h : p.engaged [] []) (s : Slot) (k : Nat) (free : p.isOpen s = false) :
    (p.openSlot s k).engaged [] [] := by
  have state : (p.incident s).state = .free := by simpa [Part.isOpen] using free
  refine h.congr (fun _ => rfl) (fun t => ?_) nofun fun _ => rfl
  have incident : (p.openSlot s k).incident t = if t = s
      then (p.incident t).opened p.bus.staging p.settings.active (p.engine.openCounter + 1) k
      else p.incident t := update_get _ _ _ _
  rw [incident]
  split
  · next e => exact ⟨(h.empty t (e ▸ state)).symm, fun _ => rfl, nofun⟩
  · exact Incident.carries_refl _

theorem Part.engaged.doOpen (h : p.engaged [] []) : p.doOpen.part.engaged [] [] := by
  unfold Part.doOpen
  split
  · exact h
  · dsimp only
    split
    · next s k hs _ =>
      have opened := h.openSlot s k (p.freeSlot_free s hs)
      dsimp only
      exact opened.round
    · exact h

theorem Part.engaged.doAmend (h : p.engaged [] []) : p.doAmend.part.engaged [] [] := by
  unfold Part.doAmend
  split
  · exact h
  · next s _ =>
    split
    · exact h
    · have amended := h.onIncident s (fun i => i.amended p.bus.staging) (Incident.carries_amended _ _)
      have trimmed := ((amended.judgeComplete s).judgeReturn s).trim
      dsimp only [Part.done]
      exact trimmed.round

/-- The volunteer is engaged with one of some slots. -/
def Part.engagedAt (p : Part) (slots : List Slot) (v : VolunteerIx) : Bool :=
  slots.any fun s => p.engagement v == .offered s || p.engagement v == .attending s

theorem Part.engagedAt_iff (p : Part) (slots : List Slot) (v : VolunteerIx) :
    p.engagedAt slots v = true ↔ ∃ s ∈ slots, p.engagement v = .offered s ∨ p.engagement v = .attending s := by
  simp [Part.engagedAt]

/-- Slots closed: those engaged with them are FREE, and their pending slots wait to be acted on (R114, R117). -/
theorem Part.engaged.closed {q : Part} (h : p.engaged [] []) (slots : List Slot) (freed : List VolunteerIx)
    (listed : ∀ v, p.engagedAt slots v = true → v ∈ freed)
    (engagement : ∀ v, q.engagement v = if p.engagedAt slots v then .free else p.engagement v)
    (incident : ∀ t, q.incident t = if t ∈ slots then (p.incident t).close else p.incident t)
    (pending : ∀ v, q.pendingOf v = p.pendingOf v) : q.engaged freed [] := by
  refine ⟨fun v t => ?_, fun v t hv => ?_, fun t => ?_, fun t ht => ?_, fun v hv hf => ?_⟩
  · rw [engagement, incident]
    by_cases ht : t ∈ slots
    · rw [if_pos ht]
      refine ⟨fun hv => ?_, fun ⟨x, hx, _⟩ => nomatch hx⟩
      split at hv
      · cases hv
      · next out => exact absurd ((p.engagedAt_iff slots v).2 ⟨t, ht, .inr hv⟩) out
    · rw [if_neg ht, ← h.attends v t]
      split
      · next into =>
        obtain ⟨s, hs, hv⟩ := (p.engagedAt_iff slots v).1 into
        refine ⟨nofun, fun e => ?_⟩
        rw [e] at hv
        obtain hv | hv := hv
        · cases hv
        · exact absurd (Engagement.attending.inj hv ▸ hs) ht
      · exact Iff.rfl
  · rw [engagement] at hv
    split at hv
    · cases hv
    · next out =>
      rw [incident, if_neg fun ht => out ((p.engagedAt_iff slots v).2 ⟨t, ht, .inl hv⟩)]
      exact h.offers v t hv
  · rw [incident]
    split
    · exact List.nodup_nil
    · exact h.once t
  · rw [incident] at ht ⊢
    split
    · rfl
    · next out => rw [if_neg out] at ht; exact h.empty t ht
  · rw [pending] at hv
    rw [engagement] at hf
    split at hf
    · next into => exact listed v into
    · exact absurd (h.pending v hv hf) List.not_mem_nil

theorem Part.mem_engagedWith (p : Part) (s : Slot) (v : VolunteerIx) :
    v ∈ p.engagedWith s ↔ p.engagement v = .offered s ∨ p.engagement v = .attending s := by
  simp [Part.engagedWith, volunteersWhere]

theorem Part.engagement_standDownSlot (p : Part) (s : Slot) (v : VolunteerIx) :
    (p.standDownSlot s).engagement v = if v ∈ p.engagedWith s then .free else p.engagement v :=
  Part.engagement_foldl _ Part.engagement_standDownFree _ _ _

theorem Part.incident_standDownSlot (p : Part) (s t : Slot) : (p.standDownSlot s).incident t = p.incident t :=
  foldl_keeps (fun q => q.incident t) Part.standDownFree
    (fun q v => by simp [Part.incident, Part.standDownFree, Part.setFree]) _ _

/-- Those engaged with any of the slots are stood down, slot by slot. -/
theorem Part.engagement_standDownSlots (slots : List Slot) (p : Part) (v : VolunteerIx) :
    (slots.foldl Part.standDownSlot p).engagement v = if p.engagedAt slots v then .free else p.engagement v := by
  induction slots generalizing p with
  | nil => rfl
  | cons s slots ih =>
    rw [List.foldl_cons, ih]
    simp only [Part.engagedAt_iff, Part.engagement_standDownSlot, Part.mem_engagedWith, List.mem_cons, exists_eq_or_imp]
    by_cases own : p.engagement v = .offered s ∨ p.engagement v = .attending s <;> simp [own]

theorem Part.freeIncident_engagement (p : Part) (s : Slot) (v : VolunteerIx) :
    (p.freeIncident s).engagement v = p.engagement v := by
  simp [Part.freeIncident, Part.onEngine, Part.engagement]

theorem Part.freeIncident_incident (p : Part) (s t : Slot) :
    (p.freeIncident s).incident t = if t = s then (p.incident t).close else p.incident t := update_get _ _ _ _

theorem Part.freeIncidents_engagement (slots : List Slot) (p : Part) (v : VolunteerIx) :
    (slots.foldl Part.freeIncident p).engagement v = p.engagement v :=
  foldl_keeps (fun q : Part => q.engagement v) Part.freeIncident (fun q s => q.freeIncident_engagement s v) _ _

theorem Part.freeIncidents_incident (slots : List Slot) (once : slots.Nodup) (p : Part) (t : Slot) :
    (slots.foldl Part.freeIncident p).incident t = if t ∈ slots then (p.incident t).close else p.incident t := by
  induction slots generalizing p with
  | nil => rfl
  | cons s slots ih =>
    obtain ⟨apart, once⟩ := List.nodup_cons.1 once
    rw [List.foldl_cons, ih once, Part.freeIncident_incident]
    by_cases e : t = s
    · subst e; simp [apart]
    · simp [e]

/-- Slots stood down and then freed (R114, R117). -/
theorem Part.engaged.close (h : p.engaged [] []) (slots : List Slot) (once : slots.Nodup) (freed : List VolunteerIx)
    (listed : ∀ v, p.engagedAt slots v = true → v ∈ freed) :
    (slots.foldl Part.freeIncident (slots.foldl Part.standDownSlot p)).engaged freed [] := by
  refine h.closed slots freed listed (fun v => ?_) (fun t => ?_) fun v => ?_
  · rw [Part.freeIncidents_engagement, Part.engagement_standDownSlots]
  · have stood : (slots.foldl Part.standDownSlot p).incident t = p.incident t :=
      foldl_keeps (fun q : Part => q.incident t) Part.standDownSlot (fun q s => q.incident_standDownSlot s t) _ _
    rw [Part.freeIncidents_incident slots once, stood]
  · have stood : (slots.foldl Part.standDownSlot p).roster = p.roster :=
      foldl_keeps (fun q : Part => q.roster) Part.standDownSlot (fun q s => q.standDownSlot_roster s) _ _
    have closed := foldl_keeps (fun q : Part => q.roster) Part.freeIncident (fun q s => q.freeIncident_roster s) slots
      (slots.foldl Part.standDownSlot p)
    rw [Part.pendingOf, closed, stood]
    rfl

theorem Part.engaged.doClose (h : p.engaged [] []) : p.doClose.part.engaged [] [] := by
  unfold Part.doClose
  split
  · exact h
  · next s _ =>
    have closed := h.close [s] (List.nodup_singleton s) (p.engagedWith s ++ []) fun v hv => by
      obtain ⟨t, ht, hv⟩ := (p.engagedAt_iff _ v).1 hv
      rw [List.mem_singleton.1 ht] at hv
      exact List.mem_append_left _ ((p.mem_engagedWith s v).2 hv)
    exact (Part.engaged.actOnPendings _ closed).roundIf _

theorem Part.engaged.doEngineClear (h : p.engaged [] []) : p.doEngineClear.part.engaged [] [] := by
  have once : p.openSlots.Nodup := (List.nodup_finRange 4).filter _
  have closed := h.close p.openSlots once (p.engagedAny ++ []) fun v hv =>
    List.mem_append_left _ (List.mem_filter.2 ⟨List.mem_finRange v, hv⟩)
  exact (Part.engaged.actOnPendings _ closed).roundIf _

theorem Part.engaged.doAdvance (h : p.engaged [] []) : p.doAdvance.part.engaged [] [] := by
  unfold Part.doAdvance
  split
  · exact h
  · next s _ =>
    split
    · exact h.expireStage s
    · exact h

theorem Part.engaged.manualAdmit (h : p.engaged [] []) (v : VolunteerIx) (s : Slot) (eta : Nat)
    (away : ∀ t, p.engagement v ≠ .attending t) (opened : (p.incident s).state ≠ .free) :
    (p.manualAdmit v s eta).part.engaged [] [] := by
  unfold Part.manualAdmit
  split
  · exact h
  · next a _ => exact ((h.enlist v s a eta away opened).alertAgain v s).roundIf _

theorem Part.engaged.doManualAttend (h : p.engaged [] []) : p.doManualAttend.part.engaged [] [] := by
  unfold Part.doManualAttend
  split
  · exact h
  · next s hs =>
    have opened := p.stagedIncident_open s hs
    split
    · exact h
    · next v _ =>
      dsimp only
      split
      · exact h
      · split
        · exact h
        · split
          · split <;> exact h
          · next free => exact h.manualAdmit v s _ (Part.away_of_free free) opened
          · next offered => exact h.manualAdmit v s _ (Part.away_of_offered offered) opened

theorem Part.engaged.doRelease (h : p.engaged [] []) : p.doRelease.part.engaged [] [] := by
  unfold Part.doRelease
  split
  · exact h
  · next v _ =>
    split
    · exact h
    · next s offered =>
      have left := (h.leave v s .standDown (Part.away_of_offered offered)).actOnPending
      dsimp only [Part.done]
      exact left.round
    · next s attending =>
      have left := (((h.removeAttendee attending).tell v .standDown).addDeclined v s).actOnPending
      dsimp only [Part.done]
      exact left.round

theorem Part.engaged.request (h : p.engaged [] []) (code : Word) : (p.request code).part.engaged [] [] := by
  unfold Part.request
  repeat' split
  · exact h.doOpen
  · exact h.doAmend
  · exact h.doClose
  · exact h.doAdvance
  · exact h.doManualAttend
  · exact h.doRelease
  · exact h.doEngineClear
  · exact h

end

end Sys2Proof.Machine
end

section
namespace Sys2Proof.Machine

/-! ### The scan (chapter 5) -/

section
variable {p : Part}

theorem Part.engaged.attempt (h : p.engaged [] []) : p.attempt.engaged [] [] := by
  have linked : p.takeLink.engaged [] [] := h.frame (by simp) (by simp)
  have taken := linked.takeEnables
  unfold Part.attempt
  dsimp only
  split
  · exact taken.frame (by simp) (by simp)
  · exact taken.frame (by simp) (by simp)

theorem Part.engaged.settle (h : p.engaged [] []) : p.settle.engaged [] [] := by
  unfold Part.settle
  split
  · exact h.attempt
  · exact h

theorem Part.engaged.judgeTests (h : p.engaged [] []) : p.judgeTests.engaged [] [] := h.frame (by simp) (by simp)

theorem Part.engaged.stopLink (h : p.engaged [] []) : p.stopLink.engaged [] [] := by
  unfold Part.stopLink
  exact Part.engaged.judgeTests (Part.engaged.takeEnables (h.frame rfl rfl))

theorem Part.engaged.holdOrStart (h : p.engaged [] []) (latched : Bool) : (p.holdOrStart latched).engaged [] [] := by
  unfold Part.holdOrStart
  split
  · exact h.frame (by simp) (by simp)
  · exact h.attempt

theorem Part.engaged.endCycle (h : p.engaged [] []) : p.endCycle.engaged [] [] := by
  have ended : (p.markChange.report .cycleEnd).engaged [] [] := h.frame (by simp) (by simp)
  unfold Part.endCycle
  dsimp only
  repeat' split
  · have refused : (p.markChange.report .cycleEnd).refuseStop.engaged [] [] := ended.frame (by simp) (by simp)
    exact refused.holdOrStart _
  · exact ended.stopLink
  · exact ended.holdOrStart _

theorem Part.engaged.boundary (h : p.engaged [] []) : p.boundary.engaged [] [] := by
  unfold Part.boundary
  repeat' split
  · exact h.frame (by simp) (by simp)
  · exact h.frame (by simp) (by simp)
  · exact h.endCycle

theorem Part.engaged.headSent (h : p.engaged [] []) : p.headSent.engaged [] [] := by
  unfold Part.headSent
  dsimp only
  repeat' split
  · exact h.frame (by simp) (by simp)
  · exact Part.engaged.boundary (h.frame rfl rfl)
  · exact h

theorem Part.engaged.slotGood (h : p.engaged [] []) (u : UnitIx) (r : Reply) : (p.slotGood u r).engaged [] [] := by
  have good : ((p.onScan fun s => { s with radio := .quiet }).goodReply u r).engaged [] [] :=
    h.frame (by simp) (by simp)
  have judged := ((good.judgeEvent u .a r.eventA).judgeEvent u .b r.eventB).roundIf (p.units[u].link = .silent)
  exact judged.boundary

theorem Part.engaged.slotMissed (h : p.engaged [] []) (u : UnitIx) : (p.slotMissed u).engaged [] [] := by
  have missed : ((p.onScan fun s => { s with radio := .quiet }).miss u).engaged [] [] := h.frame (by simp) (by simp)
  exact missed.boundary

theorem Part.engaged.replyIn (h : p.engaged [] []) (r : Reply) : (p.replyIn r).engaged [] [] := by
  unfold Part.replyIn
  repeat' split
  · exact h.frame rfl rfl
  · exact h.slotGood _ r
  · exact h.frame rfl rfl
  · exact h

theorem Part.engaged.windowCloses (h : p.engaged [] []) : p.windowCloses.engaged [] [] := by
  have corrupt : p.countCorrupt.engaged [] [] := h.frame rfl rfl
  unfold Part.windowCloses
  repeat' split
  · exact h.slotMissed _
  · exact h.slotMissed _
  · exact corrupt.slotMissed _
  · exact corrupt.slotMissed _
  · exact h

theorem Part.engaged.retryExpires (h : p.engaged [] []) : p.retryExpires.engaged [] [] := by
  unfold Part.retryExpires
  split
  · exact h.attempt
  · exact h

theorem Part.engaged.guardExpires (h : p.engaged [] []) : p.guardExpires.engaged [] [] := by
  unfold Part.guardExpires
  split
  · exact Part.engaged.attempt (h.frame rfl rfl)
  · exact h

theorem Part.engaged.stageExpires (h : p.engaged [] []) (s : Slot) : (p.stageExpires s).engaged [] [] := by
  unfold Part.stageExpires
  split
  · exact (h.expireStage s).settle
  · exact h

theorem Part.engaged.timerSecond (h : p.engaged [] []) (s : Slot) : (p.timerSecond s).engaged [] [] := by
  refine h.onIncident s Incident.tick ?_
  unfold Incident.tick
  split <;> exact Incident.carries_refl _

/-! ### Words taken (chapters 1 to 4) -/

theorem Part.engaged.scanRunOn (h : p.engaged [] []) : p.scanRunOn.engaged [] [] := by
  unfold Part.scanRunOn
  dsimp only
  split
  · exact Part.engaged.attempt (h.frame (by simp) (by simp))
  · exact h.frame (by simp) (by simp)

theorem Part.engaged.scanRunOff (h : p.engaged [] []) : p.scanRunOff.engaged [] [] := by
  have staged : (p.stageScanRun false).engaged [] [] := h.frame rfl rfl
  unfold Part.scanRunOff
  dsimp only
  split
  · exact h.frame (by simp) (by simp)
  · split
    · exact staged
    · exact staged
    · exact staged
    · exact staged.stopLink
    · exact staged.stopLink

theorem Part.engaged.takeSetupWord (h : p.engaged [] []) (off : Nat) (w : Word) :
    (p.takeSetupWord off w).engaged [] [] := by
  unfold Part.takeSetupWord
  repeat' split
  · exact h.scanRunOn
  · exact h.scanRunOff
  · exact h.frame (by simp) (by simp)
  · exact h.frame (by simp) (by simp)

theorem Part.engaged.takeRosterWord (h : p.engaged [] []) (v : VolunteerIx) (k : Nat) (w : Word) :
    (p.takeRosterWord v k w).engaged [] [] := by
  unfold Part.takeRosterWord
  split
  · exact (h.commit v w).settle
  · refine h.onRosterEntry v _ ?_
    unfold RosterEntry.stage
    split <;> rfl

theorem Part.engaged.takeUnitWord (h : p.engaged [] []) (u : UnitIx) (k : Nat) (w : Word) :
    (p.takeUnitWord u k w).engaged [] [] := by
  unfold Part.takeUnitWord Part.takeUnitWord0
  dsimp only
  repeat' split
  · exact (h.onUnit u _).takeEnable u
  · exact h.onUnit u _
  · exact h.frame (by simp) (by simp)

theorem Part.engaged.handOver (h : p.engaged [] []) (off : Nat) (w : Word) : (p.handOver off w).engaged [] [] := by
  unfold Part.handOver
  repeat' split
  · exact h.takeSetupWord off w
  · exact h.takeRosterWord _ _ w
  · exact h.takeUnitWord _ _ w
  · exact h

theorem Part.engaged.takeRequest (h : p.engaged [] []) (code : Word) : (p.takeRequest code).engaged [] [] := by
  have kept : (p.codeKept code).engaged [] [] := h.frame rfl rfl
  have acted : (p.ownerActed code).engaged [] [] := by
    unfold Part.ownerActed
    split
    · exact (kept.request code).frame (by simp) (by simp)
    · exact kept.request code
  rw [Part.takeRequest_eq]
  exact Part.engaged.settle (acted.frame rfl rfl)

theorem Part.engaged.clearCounter (h : p.engaged [] []) (j : Nat) : (p.clearCounter j).engaged [] [] := by
  unfold Part.clearCounter
  split
  · exact h.frame rfl rfl
  · exact h.congr (fun _ => rfl) (fun _ => Incident.carries_refl _) nofun fun _ => rfl
  all_goals exact h.frame rfl rfl

theorem Part.engaged.clearNotes (h : p.engaged [] []) (l : NoteLine) (w : Word) :
    (p.clearNotes l w).engaged [] [] := by
  unfold Part.clearNotes
  dsimp only
  split
  · exact Part.engaged.settle (h.frame (by simp) (by simp))
  · exact Part.engaged.settle (h.frame (by simp) (by simp))

theorem Part.engaged.takeBoardWord (h : p.engaged [] []) (k : Nat) (w : Word) :
    (p.takeBoardWord k w).engaged [] [] := by
  unfold Part.takeBoardWord
  repeat' split
  · exact h.frame rfl rfl
  · exact h.takeRequest w
  · exact h.frame rfl rfl
  · exact h.congr (fun _ => rfl) (fun _ => Incident.carries_refl _) nofun fun _ => rfl
  · exact h.clearCounter _
  · exact h.clearNotes _ w
  · exact h.frame rfl rfl
  · exact h.clearNotes _ w
  · exact h.frame rfl rfl
  · exact h

/-! ### Cycles (chapter 1) -/

theorem Part.engaged.takeWord (h : p.engaged [] []) (off : Nat) (w : Word) : (p.takeWord off w).engaged [] [] := by
  unfold Part.takeWord
  split
  · exact h.takeBoardWord _ w
  · exact h.handOver off w

theorem Part.engaged.byteToMemory (h : p.engaged [] []) (off : Nat) (high : Bool) (x : Byte) :
    (p.byteToMemory off high x).engaged [] [] := by
  unfold Part.byteToMemory
  split <;> exact h.frame rfl rfl

theorem Part.engaged.setPair (h : p.engaged [] []) (x : Option (Nat × Byte)) : (p.setPair x).engaged [] [] :=
  h.frame rfl rfl

theorem Part.engaged.recordError (h : p.engaged [] []) (k : ErrorKind) (off : Nat) :
    (p.recordError k off).engaged [] [] := h.frame rfl rfl

theorem Part.engaged.beginBoardWrite (h : p.engaged [] []) : p.beginBoardWrite.engaged [] [] := h.frame rfl rfl

theorem Part.engaged.ramWordWrite (h : p.engaged [] []) (a : Nat) (w : Word) : (p.ramWordWrite a w).engaged [] [] :=
  h.frame rfl rfl

theorem Part.engaged.writeByteAt (h : p.engaged [] []) (off : Nat) (high : Bool) (x : Byte) :
    (p.writeByteAt off high x).engaged [] [] := by
  unfold Part.writeByteAt Part.highByteIn Part.lowByteIn Part.completePair
  dsimp only
  repeat' split
  · exact h.byteToMemory off true x
  · exact ((h.byteToMemory off true x).setPair none).takeWord _ _
  · exact (h.byteToMemory off true x).recordError _ _
  · exact (h.byteToMemory off true x).recordError _ _
  · exact h.byteToMemory off false x
  · exact (h.byteToMemory off false x).setPair _
  · exact h.frame rfl rfl

theorem Part.engaged.writeWord (h : p.engaged [] []) (off : Nat) (w : Word) : (p.writeWord off w).engaged [] [] := by
  unfold Part.writeWord Part.wordIn
  repeat' split
  · exact (h.writeByteAt off false _).writeByteAt off true _
  · exact h.beginBoardWrite.takeBoardWord _ w
  · exact (h.ramWordWrite _ w).handOver off w
  · exact h.ramWordWrite _ w

/-- A read keeps the engine and the roster. -/
theorem Part.answerRead_blocks (p : Part) (k : Nat) :
    (p.answerRead k).1.engine = p.engine ∧ (p.answerRead k).1.roster = p.roster := by
  rw [Part.answerRead_eq]
  exact ⟨rfl, rfl⟩

theorem Part.engaged.readByteAt (h : p.engaged [] []) (k : Nat) (high : Bool) :
    (p.readByteAt k high).engaged [] [] := by
  obtain ⟨engine, roster⟩ := p.answerRead_blocks k
  have read := h.frame engine roster
  unfold Part.readByteAt Part.highByteOut Part.lowByteOut
  dsimp only
  repeat' split
  · exact h.frame rfl rfl
  · exact read.frame rfl rfl
  · exact read.frame rfl rfl
  · exact read.frame rfl rfl
  · exact h.frame rfl rfl

theorem Part.engaged.readWord (h : p.engaged [] []) (k : Nat) : (p.readWord k).engaged [] [] := by
  obtain ⟨engine, roster⟩ := p.answerRead_blocks k
  unfold Part.readWord Part.wordOut
  repeat' split
  · exact (h.readByteAt k false).readByteAt k true
  · exact (h.frame engine roster).frame rfl rfl
  · exact h.frame rfl rfl

theorem Part.engaged.plainCycle (h : p.engaged [] []) (c : BusCycle) : (p.plainCycle c).engaged [] [] := by
  unfold Part.plainCycle
  dsimp only
  repeat' split
  all_goals exact h.frame rfl rfl

/-- After a reset nobody is engaged and no record is pending (R46, R121). -/
theorem Part.resetBlocks_engaged (p : Part) (b : Bool) (pins : Straps) : (p.resetBlocks b pins).engaged [] [] := by
  have reset : State.reset.part.engaged [] [] :=
    (Part.engaged_iff _).2 ⟨reset_engagementLaw, reset_pendingLaw, fun s _ => by
      rw [Part.incident, reset_incident s]
      rfl⟩
  exact reset.frame rfl rfl

theorem Part.engaged.fallReset (h : p.engaged [] []) (pins : Straps) (c : Option BusCycle) :
    (p.fallReset pins c).engaged [] [] := by
  unfold Part.fallReset
  split
  · exact Part.resetBlocks_engaged _ _ _
  · exact h

theorem Part.engaged.riseReset (h : p.engaged [] []) (pins : Straps) (c : Option BusCycle) :
    (p.riseReset pins c).engaged [] [] := by
  unfold Part.riseReset
  split
  · exact h
  · exact Part.resetBlocks_engaged _ _ _

end

/-! ### Every command -/

/-- What a command answers keeps the engagements. -/
theorem exec_engaged (c : Instr) (s t : State) (hexec : exec c s = .next t) (h : s.part.engaged [] []) :
    t.part.engaged [] [] := by
  have run (f : Part → Part) (hf : (f s.part).engaged [] []) (e : s.run f = .next t) : t.part.engaged [] [] := by
    cases e
    exact hf
  have lined (ln : Lines) : (s.part.withLines ln).engaged [] [] := h.frame rfl rfl
  have word (off : Nat) (w : Word) (e : wordOfCommand c = some (off, w)) : t.part.engaged [] [] := by
    obtain ⟨ln, he⟩ := exec_wordOfCommand c off w e s
    rw [he] at hexec
    cases hexec
    exact (lined ln).writeWord off w
  have byte {q : Part} (hq : q.engaged [] []) (off : Nat) (high : Bool) (x : Byte) :
      (q.byteWrite off high x).engaged [] [] := by
    unfold Part.byteWrite
    split
    · exact hq.writeByteAt off high x
    · exact hq
  have byteRead (k : Nat) (high : Bool) : (s.part.byteRead k high).engaged [] [] := by
    unfold Part.byteRead
    split
    · exact h.readByteAt k high
    · exact h
  cases c with
  | plainCycle c =>
    refine run _ ?_ hexec
    unfold Part.plainCommand
    split
    · exact h.plainCycle c
    · exact h
  | boardRead k => exact run _ (h.readWord _) hexec
  | boardCapture b => exact run _ (h.readWord _) hexec
  | lowByteRead k => exact run _ (byteRead _ _) hexec
  | highByteRead k => exact run _ (byteRead _ _) hexec
  | lowByteWrite off x => exact run _ (byte h _ _ _) hexec
  | highByteWrite off x ln => exact run _ (byte (lined ln) _ _ _) hexec
  | deviceReset pins c => exact run _ (h.fallReset pins c) hexec
  | resetRelease pins c => exact run _ (h.riseReset pins c) hexec
  | retryTimerExpiry ln => exact run _ (lined ln).retryExpires hexec
  | cdFall => exact run _ (h.frame (by simp) (by simp)) hexec
  | lbtTimerExpiry => exact run _ (h.frame (by simp) (by simp)) hexec
  | frameHeadEnd ln => exact run _ (lined ln).headSent hexec
  | packetEnd => exact run _ (h.frame (by simp) (by simp)) hexec
  | turnaroundEnd => exact run _ (h.frame (by simp) (by simp)) hexec
  | replyStart => exact run _ (h.frame (by simp) (by simp)) hexec
  | replyComplete r ln => exact run _ ((lined ln).replyIn r) hexec
  | replyWindowClose ln => exact run _ (lined ln).windowCloses hexec
  | holdGuardExpiry ln => exact run _ (lined ln).guardExpires hexec
  | stageTimerExpiry slot ln => exact run _ ((lined ln).stageExpires slot) hexec
  | repulseTimerExpiry l => exact run _ (h.frame rfl rfl) hexec
  | testRetryExpiry ln => exact run _ ((lined ln).frame (by simp) (by simp)) hexec
  | testCdFall => exact run _ (h.frame (by simp) (by simp)) hexec
  | testLbtExpiry => exact run _ (h.frame (by simp) (by simp)) hexec
  | burstEnd => exact run _ (h.frame (by simp) (by simp)) hexec
  | testTurnaroundEnd => exact run _ (h.frame (by simp) (by simp)) hexec
  | testLeadIn => exact run _ (h.frame (by simp) (by simp)) hexec
  | patternWordReceived w ln => exact run _ ((lined ln).frame (by simp) (by simp)) hexec
  | prbsGroupReceived w ln => exact run _ ((lined ln).frame (by simp) (by simp)) hexec
  | testListenClose ln => exact run _ ((lined ln).frame (by simp) (by simp)) hexec
  | timerSecond slot => exact run _ (h.timerSecond slot) hexec
  | notifyClear l w ln => cases l <;> exact word _ _ rfl
  | notifyEnableWrite l w => cases l <;> exact word _ _ rfl
  | _ => exact word _ _ rfl

/-- Settles O58: the records and the age order are kept move by move, the engagements and the pending slots command by
command. -/
theorem stepKeepsEngine : Obligations.StepKeepsEngine := by
  unfold Obligations.StepKeepsEngine
  intro inv s t hstep ⟨age, engagements, pending, records⟩
  obtain ⟨t', hnext, moves⟩ := step_moves s
  obtain rfl : t' = t := by rw [hnext] at hstep; exact Host.Outcome.next.inj hstep
  have kept : t'.part.engine.recordsLaw :=
    moves.keeps (I := fun p => p.engine.recordsLaw) Move.keeps_recordsLaw ⟨age, records⟩
  have engaged : s.part.engaged [] [] :=
    (Part.engaged_iff _).2 ⟨engagements, pending, fun k free => ((records k).2.2.2).1 free⟩
  have after : t'.part.engaged [] [] := by
    unfold step at hstep
    split at hstep
    · next c rest _ => exact exec_engaged c { s with pending := rest } t' hstep engaged
    · cases hstep
      exact engaged
  obtain ⟨engagements', pending', -⟩ := (Part.engaged_iff _).1 after
  exact ⟨kept.1, engagements', pending', kept.2⟩

end Sys2Proof.Machine
end

/-! # Layouts: the proof of the statement about the fields of every word -/

section
namespace Sys2Proof.Machine

/-! ## Words as packed fields (chapter 11) -/

/-- A word joined from fields in rising order carries them packed. -/
theorem eq_packed_of_join {w : Word} (fields : List (Nat × Nat × Nat)) (apart : fieldsApart 0 fields = true)
    (h : w = join (fields.map fun x => field x.1 x.2.1 x.2.2)) : w = packed fields :=
  h.trans (join_eq_packed fields apart)

theorem field_eq_packed (lo width n : Nat) : field lo width n = packed [(lo, width, n)] := by
  simp [field, packed]

theorem word_eq_packed (w : Word) : w = packed [(0, 16, w.toNat)] := by
  rw [← field_eq_packed, field, Nat.mod_eq_of_lt w.isLt]
  simp

theorem byte_eq_packed (b : Byte) : b.setWidth 16 = packed [(0, 8, b.toNat)] := by
  rw [← field_eq_packed, field, Nat.mod_eq_of_lt b.isLt]
  simp

theorem toNat_decide (P : Prop) [Decidable P] : (decide P).toNat = if P then 1 else 0 := by
  by_cases h : P <;> simp [h]

/-! ## The check word (R87) -/

/-- The bits of a word in their sending order, bit 15 first. -/
def sentBits (w : Word) : List Bool := (List.range 16).map fun i => w.getLsbD (15 - i)

theorem checkStep_eq (reg w : Word) : checkStep reg w = (sentBits w).foldl checkBit reg := rfl

/-- The check word is the register after every bit sent. -/
theorem checkWord_eq (ws : List Word) : checkWord ws = (ws.flatMap sentBits).foldl checkBit 0xFFFF := by
  have run (reg : Word) : ws.foldl checkStep reg = (ws.flatMap sentBits).foldl checkBit reg := by
    induction ws generalizing reg with
    | nil => rfl
    | cons w ws ih => rw [List.foldl_cons, ih, checkStep_eq, List.flatMap_cons, List.foldl_append]
  exact run 0xFFFF

/-- Fed its own top bit, the register only shifts. -/
theorem checkBit_own (r : Word) (k : Nat) (hk : k < 16) : checkBit (r <<< k) (r.getLsbD (15 - k)) = r <<< (k + 1) := by
  have top : (r <<< k).msb = r.getLsbD (15 - k) := by
    rw [BitVec.msb_eq_getLsbD_last, BitVec.getLsbD_shiftLeft]
    simp [show ¬15 < k by omega]
  rw [checkBit, top, Bool.xor_self, if_neg Bool.false_ne_true, ← BitVec.shiftLeft_add]

/-- The register run with its own bits ends at 0. -/
theorem checkStep_self (r : Word) : checkStep r r = 0 := by
  have run (k : Nat) (hk : k ≤ 16) :
      ((List.range k).map fun i => r.getLsbD (15 - i)).foldl checkBit r = r <<< k := by
    induction k with
    | zero => simp
    | succ k ih =>
      rw [List.range_succ, List.map_append, List.foldl_append, ih (by omega)]
      exact checkBit_own r k (by omega)
  rw [checkStep_eq, sentBits, run 16 le_rfl]
  exact BitVec.shiftLeft_eq_zero le_rfl

/-- A word run with its own check ends at 0. -/
theorem checkWord_append_self (ws : List Word) : checkWord (ws ++ [checkWord ws]) = 0 := by
  have last : checkWord (ws ++ [checkWord ws]) = checkStep (checkWord ws) (checkWord ws) := by
    simp only [checkWord, List.foldl_append, List.foldl_cons, List.foldl_nil]
  rw [last, checkStep_self]

/-! ## Words of the board map (11.2) -/

theorem LinkPhase.causeCode_eq (x : LinkPhase) : x.causeCode = if x = .retryWait .noUnits then 1 else 0 := by
  cases x with
  | retryWait c => cases c <;> rfl
  | _ => rfl

theorem RejectPhase.code_eq (x : RejectPhase) : x.code = if x = .application then 1 else 0 := by
  cases x <;> rfl

theorem Seat.code_eq (x : Seat) : x.code = if x = .b then 1 else 0 := by
  cases x <;> rfl

theorem Part.settingsWaiting_toNat (p : Part) :
    p.settingsWaiting.toNat = if p.settings.staged.link = p.settings.active.link then 0 else 1 := by
  rw [Part.settingsWaiting, toNat_decide]
  exact ite_not _ _ _

theorem UnitEntry.enabled_toNat (e : UnitEntry) : e.enabled.toNat = if e.link = .disabled then 0 else 1 := by
  rw [UnitEntry.enabled, toNat_decide]
  exact ite_not _ _ _

theorem Part.scanStatus_eq (p : Part) :
    p.scanStatus = packed [(0, 3, p.scan.phase.code), (3, 1, if p.scan.phase = .retryWait .noUnits then 1 else 0),
      (4, 1, p.settings.active.scanRun.toNat), (5, 1, p.stopPending.toNat), (6, 1, p.scan.episode.toNat),
      (7, 1, if p.settings.staged.link = p.settings.active.link then 0 else 1), (8, 1, p.scan.changeFound.toNat),
      (11, 1, p.check.episode.toNat), (12, 3, p.check.test.code)] := by
  rw [← LinkPhase.causeCode_eq, ← Part.settingsWaiting_toNat]
  exact eq_packed_of_join _ rfl rfl

/-- A slot is in flight from its packet to the end of its reply window. -/
theorem Part.slotInFlight_eq (p : Part) :
    p.slotInFlight = match p.scan.radio with
      | .packet _ => true
      | .turnaround => true
      | .window _ _ => true
      | _ => false := by
  unfold Part.slotInFlight
  cases p.scan.radio <;> rfl

theorem Part.slotStatus_none (p : Part) (h : p.scan.slotShown = none) :
    p.slotStatus = packed [(15, 1, p.slotInFlight.toNat)] := by
  rw [Part.slotStatus, h]
  exact field_eq_packed _ _ _

theorem Part.slotStatus_some (p : Part) (u : UnitIx) (k : SlotKind) (h : p.scan.slotShown = some (u, k)) :
    p.slotStatus = packed [(0, 8, u.val + 1), (8, 2, k.code), (15, 1, p.slotInFlight.toNat)] := by
  rw [Part.slotStatus, h]
  exact eq_packed_of_join _ rfl rfl

theorem ResultBlock.word_unassigned (r : ResultBlock) (h : r.assigned = none) :
    r.word 0 = packed [(0, 4, r.code.code)] := by
  simp only [ResultBlock.word, h]
  exact field_eq_packed _ _ _

theorem ResultBlock.word_assigned (r : ResultBlock) (k : Slot) (g : BitVec 4) (h : r.assigned = some (k, g)) :
    r.word 0 = packed [(0, 4, r.code.code), (7, 1, 1), (8, 2, k.val), (12, 4, g.toNat)] := by
  simp only [ResultBlock.word, h]
  exact eq_packed_of_join _ rfl rfl

/-- The seat word of a packet, by the message the seat holds (R171). -/
theorem SeatState.packetWord_none (x : SeatState) (h : x.current = none) :
    x.packetWord = packed [(2, 1, x.toggle.toNat)] := by
  rw [SeatState.packetWord, h]
  exact field_eq_packed _ _ _

theorem SeatState.packetWord_standDown (x : SeatState) (c : Bool) (h : x.current = some ⟨.standDown, c⟩) :
    x.packetWord = packed [(0, 2, 2), (2, 1, x.toggle.toNat)] := by
  rw [SeatState.packetWord, h]
  exact eq_packed_of_join _ rfl rfl

theorem SeatState.packetWord_alert (x : SeatState) (a : Alert) (c : Bool) (h : x.current = some ⟨.alert a, c⟩) :
    x.packetWord = packed [(0, 2, 1), (2, 1, x.toggle.toNat), (4, 2, a.slot.val), (6, 4, a.generation.toNat),
      (10, 3, a.station), (13, 2, a.priority)] := by
  rw [SeatState.packetWord, h]
  exact eq_packed_of_join _ rfl rfl

/-! ### Blocks and entries by their place -/

theorem blockAt_incident (k : Slot) (j : Nat) (hj : j < 64) :
    blockAt (0x080 + 64 * k.val + j) = some (.incident k, j) := by
  have hk := k.isLt
  unfold blockAt
  rw [dif_pos (by omega)]
  have slot : (⟨(0x080 + 64 * k.val + j - 0x080) / 64, by omega⟩ : Slot) = k := Fin.ext (by simp only; omega)
  rw [slot, show (0x080 + 64 * k.val + j - 0x080) % 64 = j by omega]

theorem blockAt_unit (u : UnitIx) (j : Nat) (hj : j < 8) : blockAt (0x400 + 8 * u.val + j) = some (.unit u, j) := by
  have hu := u.isLt
  unfold blockAt
  rw [dif_neg (by omega), dif_pos (by omega)]
  have unit : (⟨(0x400 + 8 * u.val + j - 0x400) / 8, by omega⟩ : UnitIx) = u := Fin.ext (by simp only; omega)
  rw [unit, show (0x400 + 8 * u.val + j - 0x400) % 8 = j by omega]

theorem blockAt_none (k : Nat) (hi : ¬(0x080 ≤ k ∧ k < 0x180)) (hu : ¬(0x400 ≤ k ∧ k < 0x900)) : blockAt k = none := by
  unfold blockAt
  rw [dif_neg hi, dif_neg hu]

/-- Past the first words the board holds blocks, volunteer entries and unassigned words. -/
theorem Part.liveWord_above (p : Part) (k : Nat) (hk : 0x040 ≤ k) (hb : blockAt k = none) :
    p.liveWord k = if h : 0x200 ≤ k ∧ k < 0x3E0 then
        (if (k - 0x200) % 2 = 0 then p.volunteerWord0 ⟨(k - 0x200) / 2, by omega⟩
         else p.volunteerWord1 ⟨(k - 0x200) / 2, by omega⟩)
      else 0 := by
  have above (n : Nat) (hn : n ≤ 0x040) : (k < n) = False := eq_false (by omega)
  simp only [Part.liveWord, above, hb, if_false, Nat.reduceLeDiff]

theorem Part.liveWord_volunteer0 (p : Part) (v : VolunteerIx) :
    p.liveWord (0x200 + 2 * v.val) = p.volunteerWord0 v := by
  have hv := v.isLt
  rw [p.liveWord_above _ (by omega) (blockAt_none _ (by omega) (by omega)), dif_pos (by omega), if_pos (by omega)]
  congr 1
  exact Fin.ext (by simp only; omega)

theorem Part.liveWord_volunteer1 (p : Part) (v : VolunteerIx) :
    p.liveWord (0x201 + 2 * v.val) = p.volunteerWord1 v := by
  have hv := v.isLt
  rw [p.liveWord_above _ (by omega) (blockAt_none _ (by omega) (by omega)), dif_pos (by omega), if_neg (by omega)]
  congr 1
  exact Fin.ext (by simp only; omega)

/-- A word that the board map does not assign reads 0 (R6). -/
theorem Part.liveWord_unassigned (p : Part) (k : Nat) (h : ¬boardAssigned k) : p.liveWord k = 0 := by
  unfold boardAssigned at h
  by_cases low : k < 0x040
  · have gaps : k = 0x006 ∨ (0x008 ≤ k ∧ k < 0x010) ∨ (0x012 ≤ k ∧ k < 0x020) ∨ (0x02E ≤ k ∧ k < 0x030) ∨
        (0x039 ≤ k ∧ k < 0x03C) := by omega
    obtain rfl | ⟨lo, hi⟩ | ⟨lo, hi⟩ | ⟨lo, hi⟩ | ⟨lo, hi⟩ := gaps
    · rfl
    · rw [Part.liveWord, if_neg (by omega), if_pos hi]
    · rw [Part.liveWord, if_neg (by omega), if_neg (by omega), if_neg (by omega), if_pos hi]
    · rw [Part.liveWord, if_neg (by omega), if_neg (by omega), if_neg (by omega), if_neg (by omega),
        if_neg (by omega), if_pos hi]
    · rw [Part.liveWord, if_neg (by omega), if_neg (by omega), if_neg (by omega), if_neg (by omega),
        if_neg (by omega), if_neg (by omega), if_neg (by omega), if_pos hi]
  · rw [p.liveWord_above k (by omega) (blockAt_none k (by omega) (by omega)), dif_neg (by omega)]

/-! ### Incident blocks (R118) -/

theorem Part.incidentWord_duration (p : Part) (k : Slot) (j : Fin 4) :
    p.incidentWord k (3 + j.val) = field 0 16 (p.engine.incidents[k].durations[j]) := by
  match j with
  | 0 => rfl
  | 1 => rfl
  | 2 => rfl
  | 3 => rfl

theorem Part.incidentWord_role (p : Part) (k : Slot) (r : RoleIx) :
    p.incidentWord k (8 + r.val) =
      packed [(0, 4, p.engine.incidents[k].quotas[r]), (8, 5, p.engine.incidents[k].tallies[r])] := by
  match r with
  | 0 => exact eq_packed_of_join _ rfl rfl
  | 1 => exact eq_packed_of_join _ rfl rfl
  | 2 => exact eq_packed_of_join _ rfl rfl
  | 3 => exact eq_packed_of_join _ rfl rfl
  | 4 => exact eq_packed_of_join _ rfl rfl
  | 5 => exact eq_packed_of_join _ rfl rfl

theorem Part.incidentWord_timer (p : Part) (k : Slot) :
    p.incidentWord k 7 = field 0 16 (p.engine.incidents[k].timer.getD 0) := rfl

theorem Part.incidentWord_age (p : Part) (k : Slot) : p.incidentWord k 17 = field 0 3 (p.agePosition k) := rfl

theorem Part.agePosition_none (p : Part) (k : Slot) (h : k ∉ p.engine.age) : p.agePosition k = 0 := if_neg h

theorem Part.agePosition_some (p : Part) (k : Slot) (before after : List Slot)
    (h : p.engine.age = before ++ k :: after) (hk : k ∉ before) : p.agePosition k = before.length + 1 := by
  rw [Part.agePosition, h, if_pos (by simp), List.idxOf_append_of_notMem hk, List.idxOf_cons_self, Nat.add_zero]

theorem Part.incidentWord_gap (p : Part) (k : Slot) (j : Nat) (lo : 18 ≤ j) (hi : j < 33) : p.incidentWord k j = 0 := by
  have beyond (n : Nat) (hn : n < 18) : (j = n) = False ∧ (j ≤ n) = False :=
    ⟨eq_false (by omega), eq_false (by omega)⟩
  simp [Part.incidentWord, beyond, hi]

theorem Part.incidentWord_attendee (p : Part) (k : Slot) (n : Nat) :
    p.incidentWord k (33 + n) = (p.engine.incidents[k]).attendeeWord n := by
  have beyond (m : Nat) (hm : m < 18) : (33 + n = m) = False ∧ (33 + n ≤ m) = False :=
    ⟨eq_false (by omega), eq_false (by omega)⟩
  simp [Part.incidentWord, Part.incident, beyond]

theorem Incident.attendeeWord_some (i : Incident) (n : Nat) (a : Attendee) (h : i.attendees[n]? = some a) :
    i.attendeeWord n = packed [(0, 8, a.volunteer.val + 1), (8, 3, a.assignment.code), (12, 2, a.eta)] := by
  rw [Incident.attendeeWord, h]
  exact eq_packed_of_join _ rfl rfl

theorem Incident.attendeeWord_none (i : Incident) (n : Nat) (h : i.attendees[n]? = none) : i.attendeeWord n = 0 := by
  rw [Incident.attendeeWord, h]

/-! ### Volunteer entries (R45, R125) -/

/-- Nobody is callable but those whose unit is enabled (R44). -/
theorem Part.callable_iff (p : Part) (v : VolunteerIx) :
    p.callable v = true ↔ p.roster.entries[v].shadow.present = true ∧ p.roster.entries[v].shadow.onCall = true ∧
      p.roster.entries[v].home = true ∧
      ∃ u : UnitIx, p.roster.entries[v].shadow.unit = u.val + 1 ∧ p.units[u].link ≠ .disabled := by
  simp only [Part.callable, Part.shadow, Bool.and_eq_true, and_assoc]
  refine and_congr_right fun _ => and_congr_right fun _ => and_congr_right fun _ => ?_
  generalize p.roster.entries[v].shadow.unit = n
  by_cases hn : 1 ≤ n ∧ n ≤ 160
  · rw [unitOf, dif_pos hn]
    simp only [UnitEntry.enabled, decide_eq_true_eq]
    constructor
    · exact fun h => ⟨_, by simp only; omega, h⟩
    · rintro ⟨u, rfl, h⟩
      exact h
  · rw [unitOf, dif_neg hn]
    refine ⟨nofun, ?_⟩
    rintro ⟨u, rfl, -⟩
    have := u.isLt
    omega

theorem Part.volunteerWord0_eq (p : Part) (v : VolunteerIx) :
    p.volunteerWord0 v = packed [(0, 8, p.roster.entries[v].shadow.unit),
      (8, 1, if p.roster.entries[v].shadow.seat = .b then 1 else 0), (9, 1, p.roster.entries[v].shadow.onCall.toNat),
      (10, 1, p.roster.entries[v].home.toNat), (11, 1, (p.callable v).toNat),
      (12, 1, p.roster.entries[v].pendingRecord.isSome.toNat), (15, 1, p.roster.entries[v].shadow.present.toNat)] := by
  rw [← Seat.code_eq]
  exact eq_packed_of_join _ rfl rfl

/-- The declined-for flags of a volunteer, as fields. -/
def Standing.declinedFields (x : Standing) : List (Nat × Nat × Nat) :=
  [(12, 1, x.declined[0].toNat), (13, 1, x.declined[1].toNat), (14, 1, x.declined[2].toNat),
   (15, 1, x.declined[3].toNat)]

theorem Part.volunteerWord1_free (p : Part) (v : VolunteerIx) (h : p.engine.standing[v].engagement = .free) :
    p.volunteerWord1 v = packed (p.engine.standing[v]).declinedFields := by
  have word : p.volunteerWord1 v =
      packed ([(0, 4, 0), (4, 2, 0), (6, 2, 0), (8, 4, 0)] ++ (p.engine.standing[v]).declinedFields) := by
    simp only [Part.volunteerWord1, Part.engagement, h]
    exact eq_packed_of_join _ rfl rfl
  rw [word]
  simp [packed]

theorem Part.volunteerWord1_offered (p : Part) (v : VolunteerIx) (k : Slot)
    (h : p.engine.standing[v].engagement = .offered k) :
    p.volunteerWord1 v = packed ([(0, 4, 8), (4, 2, k.val), (8, 4, p.engine.incidents[k].generation.toNat)] ++
      (p.engine.standing[v]).declinedFields) := by
  have word : p.volunteerWord1 v =
      packed ([(0, 4, 8), (4, 2, k.val), (6, 2, 0), (8, 4, p.engine.incidents[k].generation.toNat)] ++
        (p.engine.standing[v]).declinedFields) := by
    simp only [Part.volunteerWord1, Part.engagement, h]
    exact eq_packed_of_join _ rfl rfl
  rw [word]
  simp [packed]

theorem Part.volunteerWord1_attending (p : Part) (v : VolunteerIx) (k : Slot) (before after : List Attendee)
    (a : Attendee) (h : p.engine.standing[v].engagement = .attending k)
    (list : p.engine.incidents[k].attendees = before ++ a :: after) (own : a.volunteer = v)
    (others : ∀ y ∈ before, y.volunteer ≠ v) :
    p.volunteerWord1 v = packed ([(0, 4, a.assignment.code), (4, 2, k.val), (6, 2, a.eta),
      (8, 4, p.engine.incidents[k].generation.toNat)] ++ (p.engine.standing[v]).declinedFields) := by
  have entry : (p.incident k).entryOf v = some a := by
    rw [Incident.entryOf, Part.incident, list, List.find?_append, List.find?_eq_none.2 (by simpa using others)]
    simp [own]
  simp only [Part.volunteerWord1, Part.engagement, h, entry]
  exact eq_packed_of_join _ rfl rfl

/-! ### Unit blocks (R69) -/

/-- The fields of a seat word of a unit block, by the message the seat holds (R69). -/
def SeatState.boardFields (y : SeatState) : List (Nat × Nat × Nat) :=
  match y.current with
  | none => [(4, 1, y.toggle.toNat)]
  | some ⟨.standDown, c⟩ => [(0, 2, 2), (2, 2, if c then 2 else 1), (4, 1, y.toggle.toNat)]
  | some ⟨.alert a, c⟩ =>
    [(0, 2, 1), (2, 2, if c then 2 else 1), (4, 1, y.toggle.toNat), (5, 2, a.slot.val), (7, 4, a.generation.toNat),
     (11, 3, a.station), (14, 2, a.priority)]

theorem SeatState.boardWord_eq (y : SeatState) : y.boardWord = packed y.boardFields := by
  obtain ⟨current, toggle, holder, lastEvent⟩ := y
  match current with
  | none => exact field_eq_packed _ _ _
  | some ⟨.standDown, c⟩ => exact eq_packed_of_join _ rfl rfl
  | some ⟨.alert a, c⟩ => exact eq_packed_of_join _ rfl rfl

/-- A seat's holder byte as fields from a bit of word 4 (R69). -/
def SeatState.holderPlaces (lo : Nat) (y : SeatState) : List (Nat × Nat × Nat) :=
  [(lo, 4, y.holderFields.1), (lo + 4, 2, y.holderFields.2.1), (lo + 6, 2, y.holderFields.2.2)]

theorem Part.unitWord_holders (p : Part) (u : UnitIx) :
    p.unitWord u 4 = packed (p.units[u].seatA.holderPlaces 0 ++ p.units[u].seatB.holderPlaces 8) :=
  eq_packed_of_join _ rfl rfl

theorem Part.unitWord_link (p : Part) (u : UnitIx) :
    p.unitWord u 0 = packed [(0, 1, if p.units[u].link = .disabled then 0 else 1),
      (1, 1, p.units[u].stagedEnable.toNat), (2, 2, p.units[u].link.code), (4, 4, p.units[u].misses),
      (8, 1, if u ∈ p.scan.urgent then 1 else 0)] := by
  rw [← UnitEntry.enabled_toNat, ← toNat_decide]
  exact eq_packed_of_join _ rfl rfl

/-- Settles O23, place by place: each word is a join of fields in rising order. -/
theorem fieldLayouts : Obligations.FieldLayouts := by
  unfold Obligations.FieldLayouts
  refine ⟨fun w0 w1 w2 w3 => ?_, fun x => ?_, ⟨by decide +kernel, fun ws => ⟨?_, checkWord_append_self ws⟩⟩,
    fun p => ?_⟩
  · have unit : (recordOf w0 w1 w2 w3).unit = w0.toNat % 256 := by simp [recordOf, bitsOf]
    have seat : (recordOf w0 w1 w2 w3).seat = .b ↔ w0.getLsbD 8 = true := by
      rw [recordOf]
      split_ifs with h
      · exact iff_of_true rfl h
      · exact iff_of_false nofun h
    have station : (recordOf w0 w1 w2 w3).station = w1.toNat % 16 := by simp [recordOf, bitsOf]
    have tier : (recordOf w0 w1 w2 w3).tier = w1.toNat / 16 % 4 := rfl
    have roles (i : Nat) (hi : i < 6) : (recordOf w0 w1 w2 w3).roles.getLsbD i = w2.getLsbD i := by
      simp [recordOf, hi]
    exact ⟨unit, seat, station, tier, rfl, roles, rfl, rfl⟩
  · exact ⟨x.packetWord_none, x.packetWord_standDown, x.packetWord_alert⟩
  · exact checkWord_eq ws
  · intro shows x scan last
    refine ⟨?staging, ?result, ?status, ?records, ?counters, ?incidents, ?volunteers, ?units,
      fun k _ hk => p.liveWord_unassigned k hk⟩
    case staging =>
      exact ⟨eq_packed_of_join _ rfl rfl, word_eq_packed _, eq_packed_of_join _ rfl rfl, eq_packed_of_join _ rfl rfl,
        eq_packed_of_join _ rfl rfl, eq_packed_of_join _ rfl rfl, word_eq_packed _⟩
    case result =>
      exact ⟨p.bus.result.word_unassigned, p.bus.result.word_assigned, word_eq_packed _⟩
    case status =>
      intro straps region phase test stopPending inFlight
      have slot : p.liveWord (0x2024 - 0x2000) = p.slotStatus := rfl
      have base : region = effectiveBase straps := (effectiveBase_eq straps).symm
      have flight : inFlight = p.slotInFlight := p.slotInFlight_eq.symm
      rw [base, flight]
      exact ⟨eq_packed_of_join _ rfl rfl, p.scanStatus_eq, word_eq_packed _, word_eq_packed _,
        fun h => slot.trans (p.slotStatus_none h), fun u h => slot.trans (p.slotStatus_some u .regular h),
        fun u h => slot.trans (p.slotStatus_some u .urgent h), eq_packed_of_join _ rfl rfl⟩
    case records =>
      intro age state kind rejected reason
      refine ⟨word_eq_packed _, eq_packed_of_join _ rfl rfl, eq_packed_of_join _ rfl rfl, field_eq_packed _ _ _,
        field_eq_packed _ _ _, field_eq_packed _ _ _, ?_, field_eq_packed _ _ _⟩
      rw [← RejectPhase.code_eq]
      exact eq_packed_of_join _ rfl rfl
    case counters =>
      exact ⟨word_eq_packed _, field_eq_packed _ _ _, field_eq_packed _ _ _, field_eq_packed _ _ _,
        field_eq_packed _ _ _, field_eq_packed _ _ _, field_eq_packed _ _ _, field_eq_packed _ _ _,
        field_eq_packed _ _ _, byte_eq_packed _, byte_eq_packed _, byte_eq_packed _, byte_eq_packed _⟩
    case incidents =>
      intro k i word state assignment
      refine ⟨fun j hj => p.liveWord_block _ _ _ (blockAt_incident k j hj), eq_packed_of_join _ rfl rfl,
        word_eq_packed _, word_eq_packed _, fun j => (p.incidentWord_duration k j).trans (field_eq_packed _ _ _),
        fun ht => ?_, fun n ht => ?_, p.incidentWord_role k, eq_packed_of_join _ rfl rfl, eq_packed_of_join _ rfl rfl,
        eq_packed_of_join _ rfl rfl, fun hk => ?_, fun before after ha hk => ?_, p.incidentWord_gap k,
        fun n a _ ha => (p.incidentWord_attendee k n).trans (i.attendeeWord_some n a ha),
        fun n _ ha => (p.incidentWord_attendee k n).trans (i.attendeeWord_none n ha)⟩
      · have timer : p.incidentWord k 7 = field 0 16 0 := by rw [p.incidentWord_timer, ht]; rfl
        exact timer
      · have timer : p.incidentWord k 7 = field 0 16 n := by rw [p.incidentWord_timer, ht]; rfl
        exact timer.trans (field_eq_packed _ _ _)
      · have position : p.incidentWord k 17 = field 0 3 0 := by rw [p.incidentWord_age, p.agePosition_none k hk]
        exact position
      · have position : p.incidentWord k 17 = field 0 3 (before.length + 1) := by
          rw [p.incidentWord_age, p.agePosition_some k before after ha hk]
        exact position.trans (field_eq_packed _ _ _)
    case volunteers =>
      intro v e r own generation word
      have first : p.liveWord (0x2200 + 2 * v.val - 0x2000) = p.volunteerWord0 v := by
        rw [show 0x2200 + 2 * v.val - 0x2000 = 0x200 + 2 * v.val by omega]
        exact p.liveWord_volunteer0 v
      have second : p.liveWord (0x2201 + 2 * v.val - 0x2000) = p.volunteerWord1 v := by
        rw [show 0x2201 + 2 * v.val - 0x2000 = 0x201 + 2 * v.val by omega]
        exact p.liveWord_volunteer1 v
      refine ⟨fun callable hc => ?_, fun h => second.trans (p.volunteerWord1_free v h),
        fun k h => second.trans (p.volunteerWord1_offered v k h), fun k before a after h list ha others => ?_⟩
      · obtain rfl : callable = p.callable v := Bool.eq_iff_iff.2 (hc.trans (p.callable_iff v).symm)
        exact first.trans (p.volunteerWord0_eq v)
      · have shown := second.trans (p.volunteerWord1_attending v k before after a h list ha others)
        refine ⟨fun role hr => ?_, fun hx => ?_⟩
        · rw [hr] at shown
          exact shown
        · rw [hx] at shown
          exact shown
    case units =>
      intro u e word link inquiry waiting seat holder
      have places (lo : Nat) (y : SeatState) : holder lo y = y.holderPlaces lo := by
        obtain ⟨current, toggle, held, lastEvent⟩ := y
        match held with
        | none => rfl
        | some .standDown => rfl
        | some (.alert a) => rfl
      refine ⟨fun j hj => p.liveWord_block _ _ _ (blockAt_unit u j hj), p.unitWord_link u, eq_packed_of_join _ rfl rfl,
        e.seatA.boardWord_eq, e.seatB.boardWord_eq, ?_, eq_packed_of_join _ rfl rfl, word_eq_packed _,
        word_eq_packed _⟩
      rw [places, places]
      exact p.unitWord_holders u

end Sys2Proof.Machine
end

/-! # Units and seats: the proofs of the statements about the Unit Table, its slots and the cycle around them -/

section
namespace Sys2Proof.Machine

/-! ## The urgent list (R60, R81) -/

/-- After a unit is judged, its place on the list goes by the judgement and every other unit's is as it was. -/
theorem mem_judgeUrgent (l : List UnitIx) (u x : UnitIx) (b : Bool) :
    x ∈ judgeUrgent l u b ↔ if x = u then b = true else x ∈ l := by
  unfold judgeUrgent
  cases b with
  | true =>
    rw [if_pos rfl]
    by_cases e : x = u
    · subst e; split <;> simp [*]
    · split <;> simp [e]
  | false =>
    rw [if_neg Bool.false_ne_true]
    by_cases e : x = u <;> simp [e]

theorem judgeUrgent_nodup {l : List UnitIx} (h : l.Nodup) (u : UnitIx) (b : Bool) : (judgeUrgent l u b).Nodup := by
  unfold judgeUrgent
  split
  · split
    · exact h
    · next hu =>
      refine List.nodup_append.2 ⟨h, List.nodup_singleton u, fun x hx y hy e => hu ?_⟩
      rwa [← List.mem_singleton.1 hy, ← e]
  · exact h.filter _

/-- A judgement that agrees with the list leaves it. -/
theorem judgeUrgent_of_mem_iff {l : List UnitIx} {u : UnitIx} {b : Bool} (h : u ∈ l ↔ b = true) :
    judgeUrgent l u b = l := by
  unfold judgeUrgent
  cases b with
  | true => rw [if_pos rfl, if_pos (h.2 rfl)]
  | false =>
    rw [if_neg Bool.false_ne_true]
    exact List.filter_eq_self.2 fun x hx => decide_eq_true fun e => Bool.false_ne_true (h.1 (e ▸ hx))

/-- Judging a unit twice with one outcome is judging it once. -/
theorem judgeUrgent_judgeUrgent (l : List UnitIx) (u : UnitIx) (b : Bool) :
    judgeUrgent (judgeUrgent l u b) u b = judgeUrgent l u b :=
  judgeUrgent_of_mem_iff (by rw [mem_judgeUrgent, if_pos rfl])

/-- The law goes by the urgent list and the units. -/
theorem Part.urgentLaw_iff (p : Part) :
    p.urgentLaw ↔ p.scan.urgent.Nodup ∧ ∀ u : UnitIx, u ∈ p.scan.urgent ↔ p.units[u].urgent = true := Iff.rfl

/-- A unit changed through `onUnit` stands on the list as its new entry asks. -/
theorem Part.urgentLaw.onUnit {p : Part} (h : p.urgentLaw) (u : UnitIx) (f : UnitEntry → UnitEntry) :
    (p.onUnit u f).urgentLaw := by
  obtain ⟨nodup, mem⟩ := p.urgentLaw_iff.1 h
  refine (Part.urgentLaw_iff _).2 ⟨judgeUrgent_nodup nodup u _, fun x => ?_⟩
  rw [Part.onUnit_scan, Part.onUnit_units, mem_judgeUrgent, update_get]
  split
  · next e => subst e; rfl
  · exact mem x

/-- A change that leaves a unit's urgency leaves the list. -/
theorem Part.urgentLaw.judge {p : Part} (h : p.urgentLaw) {u : UnitIx} {b : Bool} (hb : b = p.units[u].urgent) :
    judgeUrgent p.scan.urgent u b = p.scan.urgent := by
  obtain ⟨-, mem⟩ := p.urgentLaw_iff.1 h
  exact judgeUrgent_of_mem_iff (by rw [hb]; exact mem u)

/-! ## The law of a unit entry (R51, R54) -/

/-- A seat that holds no message, neither current nor waiting. -/
def SeatState.bare (s : SeatState) : Prop := s.current = none ∧ s.holder = none

/-- An inquiry that waits to be sent or to be answered. -/
def Inquiry.live (q : Inquiry) : Prop := q.state = .pending ∨ q.state = .sent

theorem UnitEntry.law_iff (e : UnitEntry) :
    e.law ↔ e.misses ≤ 15 ∧
      (e.link = .disabled → e.seatA.bare ∧ e.seatB.bare ∧ e.waiting = none ∧ ¬e.inquiry.live) := by
  unfold UnitEntry.law SeatState.bare Inquiry.live
  simp only [not_or, and_assoc, ne_eq]

theorem UnitEntry.enabled_iff (e : UnitEntry) : e.enabled = true ↔ e.link ≠ .disabled := decide_eq_true_iff

theorem UnitEntry.enabled_eq_false_iff (e : UnitEntry) : e.enabled = false ↔ e.link = .disabled := by
  rw [← Bool.not_eq_true, e.enabled_iff, not_not]

/-- A change of one seat keeps the law where, on a DISABLED unit, it keeps a bare seat bare. -/
theorem UnitEntry.law.onSeat {e : UnitEntry} (h : e.law) (s : Seat) (f : SeatState → SeatState)
    (hf : e.link = .disabled → ∀ x : SeatState, x.bare → (f x).bare) : (e.onSeat s f).law := by
  obtain ⟨misses, off⟩ := e.law_iff.1 h
  cases s with
  | a =>
    refine (UnitEntry.law_iff _).2 ⟨misses, fun hd => ?_⟩
    obtain ⟨seatA, rest⟩ := off hd
    exact ⟨hf hd _ seatA, rest⟩
  | b =>
    refine (UnitEntry.law_iff _).2 ⟨misses, fun hd => ?_⟩
    obtain ⟨seatA, seatB, rest⟩ := off hd
    exact ⟨seatA, hf hd _ seatB, rest⟩

/-- A change of the inquiry keeps the law where, on a DISABLED unit, it makes no inquiry live. -/
theorem UnitEntry.law.onInquiry {e : UnitEntry} (h : e.law) (q : Inquiry)
    (hq : e.link = .disabled → ¬e.inquiry.live → ¬q.live) : UnitEntry.law { e with inquiry := q } := by
  obtain ⟨misses, off⟩ := e.law_iff.1 h
  refine (UnitEntry.law_iff _).2 ⟨misses, fun hd => ?_⟩
  obtain ⟨seatA, seatB, waiting, idle⟩ := off hd
  exact ⟨seatA, seatB, waiting, hq hd idle⟩

/-- An enabled unit has the law where its miss count is in range. -/
theorem UnitEntry.law_of_enabled {e : UnitEntry} (misses : e.misses ≤ 15) (on : e.link ≠ .disabled) : e.law :=
  e.law_iff.2 ⟨misses, fun hd => absurd hd on⟩

theorem SeatState.bare.confirm {s : SeatState} (h : s.bare) (echo : Bool) : (s.confirm echo).bare := by
  rw [SeatState.confirm, h.1]
  exact h

theorem SeatState.bare.installHeld {s : SeatState} (h : s.bare) : s.installHeld.bare := by
  rw [SeatState.installHeld, h.2]
  exact h

/-- A failed inquiry is not live (R66). -/
theorem Inquiry.fail_not_live (q : Inquiry) : ¬q.fail.live := by
  unfold Inquiry.fail
  split
  · exact nofun
  · next h => exact h

theorem Inquiry.answered_not_live {q : Inquiry} (h : ¬q.live) (a b : Word) : ¬(q.answered a b).live := by
  rw [Inquiry.answered, if_neg fun e => h (.inr e)]
  exact h

theorem Inquiry.unanswered_not_live {q : Inquiry} (h : ¬q.live) : ¬q.unanswered.live := by
  rw [Inquiry.unanswered, if_neg fun e => h (.inr e)]
  exact h

/-- A new inquiry: failed at once at a DISABLED unit, else asked now or after the one in flight (R64). -/
theorem UnitEntry.law.newInquiry {e : UnitEntry} (h : e.law) (c : BitVec 4) : (e.newInquiry c).law := by
  unfold UnitEntry.newInquiry
  cases on : e.enabled with
  | true =>
    have enabled := e.enabled_iff.1 on
    rw [if_pos rfl]
    split
    · exact UnitEntry.law_of_enabled h.1 enabled
    · exact UnitEntry.law_of_enabled h.1 enabled
  | false =>
    rw [if_neg Bool.false_ne_true]
    exact h.onInquiry _ fun _ _ => nofun

/-- A DISABLED unit does not become SILENT, and a miss counts to 15 at most (R54). -/
theorem UnitEntry.law.missed {e : UnitEntry} (h : e.law) (n : Nat) : (e.missed n).law := by
  obtain ⟨misses, off⟩ := e.law_iff.1 h
  have counted : countUp 15 e.misses ≤ 15 := countUp_le 15 _ misses
  unfold UnitEntry.missed
  split
  · exact UnitEntry.law_of_enabled counted nofun
  · exact (UnitEntry.law_iff _).2 ⟨counted, off⟩

theorem UnitEntry.law.heardFrom {e : UnitEntry} (h : e.law) : e.heardFrom.law := by
  obtain ⟨-, off⟩ := e.law_iff.1 h
  refine (UnitEntry.law_iff _).2 ⟨Nat.zero_le _, fun hd => ?_⟩
  by_cases hl : e.link = .disabled
  · exact off hl
  · rw [UnitEntry.heardFrom, if_neg hl] at hd
    cases hd

theorem UnitEntry.law.installWaiting {e : UnitEntry} (h : e.law) : e.installWaiting.law := by
  obtain ⟨misses, off⟩ := e.law_iff.1 h
  unfold UnitEntry.installWaiting
  split
  · next c hc =>
    refine UnitEntry.law_of_enabled misses fun hd => ?_
    obtain ⟨-, -, waiting, -⟩ := off hd
    rw [waiting] at hc
    cases hc
  · exact h

/-- The packet sends a PENDING inquiry, which a DISABLED unit has not (R65). -/
theorem UnitEntry.law.beginPacket {e : UnitEntry} (h : e.law) : e.beginPacket.law := by
  refine h.onInquiry (if e.inquiry.state = .pending then { e.inquiry with state := .sent } else e.inquiry) ?_
  intro _ idle
  rw [if_neg fun pending => idle (.inl pending)]
  exact idle

theorem UnitEntry.law.turnOff {e : UnitEntry} (h : e.law) : e.turnOff.law :=
  (UnitEntry.law_iff _).2 ⟨h.1, fun _ => ⟨⟨rfl, rfl⟩, ⟨rfl, rfl⟩, rfl, e.inquiry.fail_not_live⟩⟩

/-- Whatever happens to a unit keeps its law. -/
theorem UnitMove.keeps_law {e f : UnitEntry} (m : UnitMove e f) (h : e.law) : f.law := by
  cases m with
  | word0 w b => exact h
  | inquiry c => exact h.newInquiry c
  | turnOn => exact UnitEntry.law_of_enabled (Nat.zero_le _) nofun
  | turnOff => exact h.turnOff
  | install s m on => exact h.onSeat s _ fun hd => absurd hd (e.enabled_iff.1 on)
  | hold s m on => exact h.onSeat s _ fun hd => absurd hd (e.enabled_iff.1 on)
  | packet => exact h.beginPacket
  | heard => exact h.heardFrom
  | flags x => exact h
  | missed n => exact h.missed n
  | unchanged => exact h
  | confirm s b => exact h.onSeat s _ fun _ _ hx => hx.confirm b
  | installHeld s => exact h.onSeat s _ fun _ _ hx => hx.installHeld
  | answered a b => exact h.onInquiry _ fun _ idle => Inquiry.answered_not_live idle a b
  | unanswered => exact h.onInquiry _ fun _ idle => Inquiry.unanswered_not_live idle
  | installWaiting => exact h.installWaiting
  | echo => exact h
  | accept s b => exact h.onSeat s (fun x => { x with lastEvent := some b }) fun _ _ hx => hx

/-! ## Every step keeps the unit and urgent-list laws -/

/-- Of the moves, those on a unit, on the scan and a reset reach what the urgent list's law speaks of. -/
theorem Move.keeps_urgentLaw (p q : Part) (m : Move p q) (h : p.urgentLaw) : q.urgentLaw := by
  cases m with
  | unit u f _ => exact h.onUnit u f
  | scan f same =>
    refine (Part.urgentLaw_iff _).2 ?_
    rw [Part.onScan_scan, same]
    exact h
  | reset b x => exact reset_urgentLaw
  | _ => exact h

/-- Of the moves, those on a unit and a reset touch the units. -/
theorem Move.keeps_unitLaw (p q : Part) (m : Move p q) (h : ∀ u : UnitIx, (p.units[u]).law) (u : UnitIx) :
    (q.units[u]).law := by
  cases m with
  | unit x f m =>
    rw [Part.onUnit_units, update_get]
    split
    · next e => subst e; exact m.keeps_law (h u)
    · exact h u
  | reset b x =>
    have initial : (Vector.replicate 160 UnitEntry.initial)[u] = UnitEntry.initial := Vector.getElem_replicate u.isLt
    exact initial ▸ UnitEntry.initial_law
  | _ => exact h u

/-- Settles O57: a step is a run of moves, and every move keeps both laws. -/
theorem stepKeepsUnits : Obligations.StepKeepsUnits := by
  unfold Obligations.StepKeepsUnits
  intro s t hstep laws
  obtain ⟨t', hnext, moves⟩ := step_moves s
  obtain rfl : t' = t := by rw [hnext] at hstep; exact Host.Outcome.next.inj hstep
  exact moves.keeps (I := fun p => p.urgentLaw ∧ ∀ u : UnitIx, (p.units[u]).law)
    (fun p q m hp => ⟨m.keeps_urgentLaw p q hp.1, m.keeps_unitLaw p q hp.2⟩) laws

end Sys2Proof.Machine
end

section
namespace Sys2Proof.Machine

/-! ## One unit changed (R60, R81) -/

theorem Part.onUnit_eq (p : Part) (u : UnitIx) (f : UnitEntry → UnitEntry) :
    p.onUnit u f =
      { p with units := p.units.set u (f p.units[u])
               scan := { p.scan with urgent := judgeUrgent p.scan.urgent u (f p.units[u]).urgent } } := rfl

/-- `p` with a unit's entry as given; the urgent list is as it was. -/
def Part.withUnit (p : Part) (u : UnitIx) (e : UnitEntry) : Part := { p with units := p.units.set u e }

/-- A change that leaves the unit's urgency touches nothing but its entry. -/
theorem Part.urgentLaw.onUnit_entry {p : Part} (law : p.urgentLaw) (u : UnitIx) (f : UnitEntry → UnitEntry)
    (same : (f p.units[u]).urgent = p.units[u].urgent) :
    p.onUnit u f = p.withUnit u (f p.units[u]) := by
  rw [p.onUnit_eq, law.judge same]
  rfl

theorem Part.forwarded.urgentLaw {p q : Part} {off : Nat} {w : Word} (h : p.forwarded q off w) (law : p.urgentLaw) :
    q.urgentLaw := by
  rw [q.urgentLaw_iff, h.scan, h.units]
  exact law

theorem Part.forwarded.unit {p q : Part} {off : Nat} {w : Word} (h : p.forwarded q off w) (u : UnitIx) :
    q.units[u] = p.units[u] := by
  rw [h.units]

/-! ## Unit words (R47 to R49, R64) -/

/-- Unit word 0: the entry is replaced, and with the link stopped the enable is taken. -/
theorem Part.takeUnitWord0_eq {p : Part} (law : p.urgentLaw) (u : UnitIx) (w : Word) :
    p.takeUnitWord0 u w =
      let written := p.withUnit u { p.units[u] with watch := watchOf w, stagedEnable := enableOf w }
      if p.settings.active.scanRun then written else written.takeEnable u := by
  rw [Part.takeUnitWord0, law.onUnit_entry u _ rfl, Part.stopped]
  generalize p.withUnit u _ = written
  cases p.settings.active.scanRun <;> rfl

/-- Settles O25: the word is forwarded and handed to the Unit Table. -/
theorem unitWord0Taken : Obligations.UnitWord0Taken := by
  unfold Obligations.UnitWord0Taken
  intro s u w hr hm law
  obtain ⟨q, hq, hrun⟩ := s.part.unitWordHanded u 0 (by decide) w hr hm
  refine ⟨q, hq, ?_⟩
  intro e written
  have handed : q.takeUnitWord u 0 w = q.takeUnitWord0 u w := rfl
  have taken := Part.takeUnitWord0_eq (hq.urgentLaw law) u w
  rw [hq.unit u, hq.settings] at taken
  exact s.next_part (hrun.trans (handed.trans taken))

/-- A new inquiry by R64's table. -/
theorem UnitEntry.newInquiry_eq (e : UnitEntry) (c : BitVec 4) :
    e.newInquiry c =
      if e.link = .disabled then { e with inquiry := { state := .failed, code := c, result1 := 0, result2 := 0 } }
      else if e.inquiry.state = .sent then { e with waiting := some c }
      else { e with inquiry := { state := .pending, code := c, result1 := 0, result2 := 0 } } := by
  unfold UnitEntry.newInquiry
  cases on : e.enabled with
  | true => rw [if_pos rfl, if_neg (e.enabled_iff.1 on)]; rfl
  | false => rw [if_neg Bool.false_ne_true, if_pos (e.enabled_eq_false_iff.1 on)]

theorem UnitEntry.newInquiry_urgent (e : UnitEntry) (c : BitVec 4) : (e.newInquiry c).urgent = e.urgent := by
  rw [e.newInquiry_eq]
  split_ifs <;> rfl

theorem Part.takeInquiryWord_zero (p : Part) (u : UnitIx) (w : Word) (h : inquiryCodeOf w = 0) :
    p.takeInquiryWord u w = p := by
  simp only [Part.takeInquiryWord, if_pos h]

theorem Part.takeInquiryWord_refused (p : Part) (u : UnitIx) (w : Word) (h : 5 < (inquiryCodeOf w).toNat) :
    p.takeInquiryWord u w = p.errorKept .outOfRange (0x1000 + 2 * u.val + 1) := by
  have nonzero : inquiryCodeOf w ≠ 0 := fun e => by simp [e] at h
  simp only [Part.takeInquiryWord, if_neg nonzero, if_neg (Nat.not_le.2 h)]
  rw [p.recordError_eq, Nat.add_right_comm]

theorem Part.takeInquiryWord_asked {p : Part} (law : p.urgentLaw) (u : UnitIx) (w : Word)
    (h1 : 1 ≤ (inquiryCodeOf w).toNat) (h5 : (inquiryCodeOf w).toNat ≤ 5) :
    p.takeInquiryWord u w =
      p.withUnit u (p.units[u].newInquiry (inquiryCodeOf w)) := by
  have nonzero : inquiryCodeOf w ≠ 0 := fun e => by simp [e] at h1
  simp only [Part.takeInquiryWord, if_neg nonzero, if_pos h5]
  exact law.onUnit_entry u _ (p.units[u].newInquiry_urgent _)

/-- Settles O28, by the code of the word. -/
theorem inquiryWritten : Obligations.InquiryWritten := by
  unfold Obligations.InquiryWritten
  intro s u w hr hm law
  obtain ⟨q, hq, hrun⟩ := s.part.unitWordHanded u 1 (by decide) w hr hm
  refine ⟨q, hq, fun h0 => ?_, fun h6 => ?_, fun h1 h5 => ?_⟩
  · exact s.next_part (hrun.trans (q.takeInquiryWord_zero u w h0))
  · exact s.next_part (hrun.trans (q.takeInquiryWord_refused u w h6))
  · have asked := Part.takeInquiryWord_asked (hq.urgentLaw law) u w h1 h5
    rw [UnitEntry.newInquiry_eq, hq.unit u] at asked
    exact s.next_part (hrun.trans asked)

/-! ## Seat messages (R51, R57, R58, R90) -/

/-- A unit's slot is in flight: some slot is, and it is this unit's. -/
theorem Part.inFlight_eq (p : Part) (u : UnitIx) :
    p.inFlight u = (p.slotInFlight && p.scan.slotShown.map (·.1) == some u) := by
  have own : decide (p.scan.slotShown.map (·.1) = some u) = (true && p.scan.slotShown.map (·.1) == some u) := by
    rw [Bool.true_and, beq_eq_decide]
  unfold Part.inFlight Part.slotInFlight
  cases p.scan.radio with
  | quiet | head => rfl
  | packet | turnaround | window => exact own

theorem Part.endHold_eq (p : Part) :
    p.endHold = { p with scan := { p.scan with
      guardTimer := if p.scan.phase = .holding then none else p.scan.guardTimer } } := by
  unfold Part.endHold
  split <;> rfl

theorem Part.setMessage_disabled (p : Part) (u : UnitIx) (x : Seat) (m : Message) (h : p.units[u].link = .disabled) :
    p.setMessage u x m = p := by
  rw [Part.setMessage, if_neg]
  rw [p.units[u].enabled_iff]
  exact not_not_intro h

/-- A message for an enabled unit: into the holder while its slot is in flight, on the seat otherwise. -/
theorem Part.setMessage_enabled (p : Part) (u : UnitIx) (x : Seat) (m : Message) (h : p.units[u].link ≠ .disabled) :
    p.setMessage u x m =
      (p.onUnit u fun e => e.onSeat x fun y => if p.inFlight u then y.hold m else y.install m).endHold := by
  rw [Part.setMessage, if_pos (p.units[u].enabled_iff.2 h)]
  cases p.inFlight u <;> rfl

/-- Settles O29, by the unit's enable and its slot in flight. -/
theorem messageSet : Obligations.MessageSet := by
  unfold Obligations.MessageSet
  intro p u x m
  refine ⟨p.setMessage_disabled u x m, fun on => ?_⟩
  rw [p.setMessage_enabled u x m on, Part.endHold_eq, p.inFlight_eq]
  cases x <;> rfl

/-! ## Enables (R49 to R51, R148) -/

theorem UnitEntry.urgent_eq_false_of_disabled {e : UnitEntry} (h : e.link = .disabled) : e.urgent = false := by
  rw [UnitEntry.urgent, e.enabled_eq_false_iff.2 h, Bool.false_and]

theorem SeatState.unconfirmed_of_bare {s : SeatState} (h : s.bare) : s.unconfirmed = false := by
  rw [SeatState.unconfirmed, h.1]

/-- A unit that was DISABLED has nothing to send when it becomes enabled. -/
theorem UnitEntry.law.turnOn_urgent {e : UnitEntry} (law : e.law) (h : e.link = .disabled) :
    e.turnOn.urgent = false := by
  obtain ⟨-, off⟩ := e.law_iff.1 law
  obtain ⟨seatA, seatB, -⟩ := off h
  have a : e.turnOn.seatA.unconfirmed = false := SeatState.unconfirmed_of_bare ⟨seatA.1, seatA.2⟩
  have b : e.turnOn.seatB.unconfirmed = false := SeatState.unconfirmed_of_bare ⟨seatB.1, seatB.2⟩
  rw [UnitEntry.urgent, a, b]
  rfl

theorem Part.takeEnable_same (p : Part) (u : UnitIx)
    (h : p.units[u].stagedEnable = decide (p.units[u].link ≠ .disabled)) : p.takeEnable u = p := by
  simp only [Part.takeEnable]
  exact if_pos h

/-- An enable: the unit is set as R50 says, and an offer round runs. -/
theorem Part.takeEnable_on {p : Part} (law : p.urgentLaw) (u : UnitIx) (own : (p.units[u]).law)
    (staged : p.units[u].stagedEnable = true) (off : p.units[u].link = .disabled) :
    p.takeEnable u = (p.withUnit u p.units[u].turnOn).round := by
  have differs : p.units[u].stagedEnable ≠ p.units[u].enabled := by
    rw [staged, p.units[u].enabled_eq_false_iff.2 off]
    decide
  simp only [Part.takeEnable, if_neg differs, if_pos staged]
  rw [law.onUnit_entry u _ ((own.turnOn_urgent off).trans (UnitEntry.urgent_eq_false_of_disabled off).symm)]

/-- A disable: the unit is set as R51 says, leaves the urgent list, and is reported. -/
theorem Part.takeEnable_off (p : Part) (u : UnitIx) (staged : p.units[u].stagedEnable = false)
    (on : p.units[u].link ≠ .disabled) :
    p.takeEnable u =
      Part.unitDisabled { p with units := p.units.set u p.units[u].turnOff
                                 scan := { p.scan with urgent := p.scan.urgent.filter fun x => x ≠ u } } u := by
  have differs : p.units[u].stagedEnable ≠ p.units[u].enabled := by
    rw [staged, p.units[u].enabled_iff.2 on]
    decide
  simp only [Part.takeEnable, if_neg differs]
  rw [if_neg (Bool.eq_false_iff.1 staged), p.onUnit_eq,
    UnitEntry.urgent_eq_false_of_disabled (e := p.units[u].turnOff) rfl]
  rfl

/-- A failed inquiry keeps its code and results (R66). -/
theorem Inquiry.fail_eq (q : Inquiry) :
    q.fail = { q with state := if q.state = .pending ∨ q.state = .sent then .failed else q.state } := by
  unfold Inquiry.fail
  split <;> rfl

theorem UnitEntry.turnOff_eq (e : UnitEntry) :
    e.turnOff =
      { e with link := .disabled, echo := false, changed := false, waiting := none,
               seatA := { e.seatA with current := none, holder := none },
               seatB := { e.seatB with current := none, holder := none },
               inquiry := { e.inquiry with
                 state := if e.inquiry.state = .pending ∨ e.inquiry.state = .sent then .failed
                          else e.inquiry.state } } := by
  rw [UnitEntry.turnOff, Inquiry.fail_eq]
  rfl

/-- A volunteer stands OFFERED: some slot is offered. -/
theorem Engagement.offered_any (x : Engagement) :
    (match x with
      | .offered _ => true
      | _ => false) = (List.finRange 4).any fun k => x == .offered k := by
  cases x with
  | free => rfl
  | offered t => exact (List.any_eq_true.2 ⟨t, List.mem_finRange t, beq_self_eq_true (Engagement.offered t)⟩).symm
  | attending t => exact (List.any_eq_false.2 fun k _ => by simp).symm

theorem Part.offeredAt_eq (p : Part) (u : UnitIx) :
    p.offeredAt u = (List.finRange 240).filter fun v =>
      (p.shadow v).present && (p.shadow v).unit == u.val + 1 &&
        (List.finRange 4).any fun k => p.engagement v == .offered k := by
  unfold Part.offeredAt volunteersWhere
  refine List.filter_congr fun v _ => ?_
  rw [← Engagement.offered_any]
  rfl

/-- The report of a disable (R148): withdrawals, pending slots, and a round where anyone became FREE. -/
theorem Part.unitDisabled_eq (p : Part) (u : UnitIx) :
    p.unitDisabled u =
      let withdrawn := (p.offeredAt u).foldl Part.actOnPending ((p.offeredAt u).foldl Part.setFree p)
      if p.offeredAt u = [] then withdrawn else withdrawn.round := by
  simp only [Part.unitDisabled, Part.actOnPendings, Part.roundIf]
  cases p.offeredAt u <;> rfl

/-- Settles O26, by the staged value and the active enable. -/
theorem enableTaken : Obligations.EnableTaken := by
  unfold Obligations.EnableTaken
  refine ⟨fun p u law own => ⟨p.takeEnable_same u, Part.takeEnable_on law u own, fun staged on => ?_⟩, fun p => rfl⟩
  have off := p.takeEnable_off u staged on
  rw [UnitEntry.turnOff_eq, Part.unitDisabled_eq, Part.offeredAt_eq] at off
  exact off

end Sys2Proof.Machine
end

section
namespace Sys2Proof.Machine

/-! ## Who is at a seat (R36) -/

/-- A volunteer's present shadow record names the unit and seat. -/
def Part.seated (p : Part) (v : VolunteerIx) (u : UnitIx) (x : Seat) : Prop :=
  (p.shadow v).present = true ∧ (p.shadow v).unit = u.val + 1 ∧ (p.shadow v).seat = x

/-- What `seatHolder` looks for in a volunteer. -/
theorem Part.seated_iff (p : Part) (v : VolunteerIx) (u : UnitIx) (x : Seat) :
    ((p.shadow v).present && (p.shadow v).unit == unitNumber u && (p.shadow v).seat == x) = true ↔ p.seated v u x := by
  simp only [Part.seated, unitNumber, Bool.and_eq_true, beq_iff_eq, and_assoc]

/-- Under the roster law a seat has one holder at most. -/
theorem Part.seated_unique {p : Part} (law : p.roster.law) {v w : VolunteerIx} {u : UnitIx} {x : Seat}
    (hv : p.seated v u x) (hw : p.seated w u x) : v = w := by
  obtain ⟨-, apart⟩ := law
  obtain ⟨presentV, unitV, seatV⟩ := hv
  obtain ⟨presentW, unitW, seatW⟩ := hw
  by_contra hne
  exact apart v w hne presentV presentW ⟨unitV.trans unitW.symm, seatV.trans seatW.symm⟩

theorem Part.seatHolder_of_seated {p : Part} (law : p.roster.law) {v : VolunteerIx} {u : UnitIx} {x : Seat}
    (h : p.seated v u x) : p.seatHolder u x = some v := by
  cases found : p.seatHolder u x with
  | none => exact absurd ((p.seated_iff v u x).2 h) (List.find?_eq_none.1 found v (List.mem_finRange v))
  | some w =>
    have seated : p.seated w u x := (p.seated_iff w u x).1 (List.find?_some (p := fun w =>
      (p.shadow w).present && (p.shadow w).unit == unitNumber u && (p.shadow w).seat == x) found)
    rw [Part.seated_unique law h seated]

theorem Part.seatHolder_of_empty {p : Part} {u : UnitIx} {x : Seat} (h : ∀ v, ¬p.seated v u x) :
    p.seatHolder u x = none :=
  List.find?_eq_none.2 fun v _ hv => h v ((p.seated_iff v u x).1 hv)

/-! ## Seat events (R61 to R63, R172) -/

/-- An event word by its code; codes 0 and 5 to 7 are NONE. -/
theorem seatEventOf_eq (w : Word) :
    seatEventOf w =
      if w.toNat % 8 = 1 then .attend (etaBand (bitsOf w 4 2)) (eventSlot w) (eventGeneration w)
      else if w.toNat % 8 = 2 then .decline (eventSlot w) (eventGeneration w)
      else if w.toNat % 8 = 3 then .availOff
      else if w.toNat % 8 = 4 then .availOn
      else .none := by
  have code : bitsOf w 0 3 = w.toNat % 8 := by simp [bitsOf]
  unfold seatEventOf
  rw [code]
  match w.toNat % 8 with
  | 0 | 1 | 2 | 3 | 4 => rfl
  | n + 5 => rfl

theorem seatEventOf_eq_none_iff (w : Word) : seatEventOf w = .none ↔ w.toNat % 8 = 0 ∨ 5 ≤ w.toNat % 8 := by
  have bound : w.toNat % 8 < 8 := Nat.mod_lt _ (by decide)
  rw [seatEventOf_eq]
  split_ifs
  · exact iff_of_false nofun (by omega)
  · exact iff_of_false nofun (by omega)
  · exact iff_of_false nofun (by omega)
  · exact iff_of_false nofun (by omega)
  · exact iff_of_true rfl (by omega)

/-- The seat's record of an accepted event, and the echo flag (R61, R63). -/
def Part.accepted (p : Part) (u : UnitIx) (x : Seat) (toggle : Bool) : Part :=
  p.onUnit u fun e => { e.onSeat x fun y => { y with lastEvent := some toggle } with echo := true }

theorem Part.judgeEvent_none (p : Part) (u : UnitIx) (x : Seat) (w : Word) (h : seatEventOf w = .none) :
    p.judgeEvent u x w = p := by
  simp only [Part.judgeEvent, if_pos h]

theorem Part.judgeEvent_repeat (p : Part) (u : UnitIx) (x : Seat) (w : Word) (h : seatEventOf w ≠ .none)
    (last : (p.units[u].seat x).lastEvent = some (eventToggle w)) :
    p.judgeEvent u x w = p.onUnit u fun e => { e with echo := true } := by
  simp only [Part.judgeEvent, if_neg h, if_pos last]

/-- An accepted event of a seat with a holder is passed on for the holder (R62). -/
theorem Part.judgeEvent_passed {p : Part} (law : p.roster.law) {u : UnitIx} {x : Seat} {w : Word}
    (h : seatEventOf w ≠ .none) (last : (p.units[u].seat x).lastEvent ≠ some (eventToggle w)) {v : VolunteerIx}
    (seated : p.seated v u x) :
    p.judgeEvent u x w = (p.accepted u x (eventToggle w)).takeEvent v (seatEventOf w) := by
  have holder : (p.accepted u x (eventToggle w)).seatHolder u x = some v := Part.seatHolder_of_seated law seated
  unfold Part.accepted at holder ⊢
  simp only [Part.judgeEvent, if_neg h, if_neg last, holder]

/-- An accepted event of a seat that nobody holds is counted stale (R62). -/
theorem Part.judgeEvent_stale {p : Part} {u : UnitIx} {x : Seat} {w : Word} (h : seatEventOf w ≠ .none)
    (last : (p.units[u].seat x).lastEvent ≠ some (eventToggle w)) (empty : ∀ v, ¬p.seated v u x) :
    p.judgeEvent u x w = (p.accepted u x (eventToggle w)).staleKept := by
  have holder : (p.accepted u x (eventToggle w)).seatHolder u x = none := Part.seatHolder_of_empty empty
  unfold Part.accepted at holder ⊢
  simp only [Part.judgeEvent, if_neg h, if_neg last, holder]
  rfl

/-- An event of code 1 to 4 as the Callout Engine takes it. -/
theorem Part.takeEvent_seatEventOf (p : Part) (v : VolunteerIx) (w : Word) (h1 : 1 ≤ w.toNat % 8)
    (h4 : w.toNat % 8 ≤ 4) :
    p.takeEvent v (seatEventOf w) =
      if w.toNat % 8 = 1 then p.takeAttend v (etaBand (bitsOf w 4 2)) (eventSlot w) (eventGeneration w)
      else if w.toNat % 8 = 2 then p.takeDecline v (eventSlot w) (eventGeneration w)
      else if w.toNat % 8 = 3 then p.takeAvailOff v
      else p.takeAvailOn v := by
  rw [seatEventOf_eq]
  split_ifs
  · rfl
  · rfl
  · rfl
  · rfl
  · omega

/-- Settles O33, by the code of the event, the toggle last accepted, and who sits there. -/
theorem seatEventJudged : Obligations.SeatEventJudged := by
  unfold Obligations.SeatEventJudged
  intro p u x w law code slot band eta generation last
  have own : last p.units[u] = (p.units[u].seat x).lastEvent := by cases x <;> rfl
  have event (h1 : 1 ≤ code) (h4 : code ≤ 4) : seatEventOf w ≠ .none := fun h =>
    absurd ((seatEventOf_eq_none_iff w).1 h) (by omega)
  rw [own]
  refine ⟨fun h => p.judgeEvent_none u x w ((seatEventOf_eq_none_iff w).2 h),
    fun h1 h4 hl => p.judgeEvent_repeat u x w (event h1 h4) hl, fun h1 h4 hl => ?_⟩
  intro accepted
  have taken : accepted = p.accepted u x (eventToggle w) := by cases x <;> rfl
  rw [taken]
  refine ⟨fun v present unit seat => ?_, fun empty => ?_⟩
  · rw [Part.judgeEvent_passed law (event h1 h4) hl ⟨present, unit, seat⟩]
    exact Part.takeEvent_seatEventOf _ v w h1 h4
  · exact Part.judgeEvent_stale (event h1 h4) hl fun v ⟨present, unit, seat⟩ => empty v present unit seat

end Sys2Proof.Machine
end

section
namespace Sys2Proof.Machine

/-! ## A run of changes of one unit -/

/-- `p` with a unit's entry and the urgent list as given. -/
def Part.setUnit (p : Part) (u : UnitIx) (e : UnitEntry) (l : List UnitIx) : Part :=
  { p with units := p.units.set u e, scan := { p.scan with urgent := l } }

theorem Part.onUnit_eq_setUnit (p : Part) (u : UnitIx) (f : UnitEntry → UnitEntry) :
    p.onUnit u f = p.setUnit u (f p.units[u]) (judgeUrgent p.scan.urgent u (f p.units[u]).urgent) := rfl

theorem Part.setUnit_unit (p : Part) (u : UnitIx) (e : UnitEntry) (l : List UnitIx) :
    (p.setUnit u e l).units[u] = e := by
  simp [Part.setUnit]

/-- A second change of the unit starts from the first one's entry and list. -/
theorem Part.setUnit_onUnit (p : Part) (u : UnitIx) (e : UnitEntry) (l : List UnitIx) (f : UnitEntry → UnitEntry) :
    (p.setUnit u e l).onUnit u f = p.setUnit u (f e) (judgeUrgent l u (f e).urgent) := by
  rw [Part.onUnit_eq_setUnit, p.setUnit_unit]
  simp [Part.setUnit]

/-! ## Judging a unit more than once (R60, R81) -/

/-- While a listed unit loses its reasons one by one, only the last judgement counts. -/
theorem judgeUrgent_of_falling {l : List UnitIx} {u : UnitIx} {a b : Bool} (first : a = true → u ∈ l)
    (falls : b = true → a = true) : judgeUrgent (judgeUrgent l u a) u b = judgeUrgent l u b := by
  cases a with
  | true => rw [judgeUrgent_of_mem_iff (iff_of_true (first rfl) rfl)]
  | false =>
    rw [Bool.eq_false_iff.2 fun hb => Bool.false_ne_true (falls hb)]
    exact judgeUrgent_judgeUrgent l u false

/-- While a unit gains reasons one by one, only the last judgement counts. -/
theorem judgeUrgent_of_rising {l : List UnitIx} {u : UnitIx} {a b : Bool} (first : u ∈ l → a = true)
    (rises : a = true → b = true) : judgeUrgent (judgeUrgent l u a) u b = judgeUrgent l u b := by
  cases a with
  | true =>
    rw [rises rfl]
    exact judgeUrgent_judgeUrgent l u true
  | false => rw [judgeUrgent_of_mem_iff (iff_of_false (fun h => Bool.false_ne_true (first h)) Bool.false_ne_true)]

theorem UnitEntry.urgent_iff (e : UnitEntry) :
    e.urgent = true ↔
      e.link ≠ .disabled ∧ (e.seatA.unconfirmed = true ∨ e.seatB.unconfirmed = true ∨ e.echo = true) := by
  rw [UnitEntry.urgent, Bool.and_eq_true, e.enabled_iff]
  simp only [Bool.or_eq_true, or_assoc]

/-- A seat changed so that it is UNCONFIRMED only where it was makes its unit urgent only where it was. -/
theorem UnitEntry.urgent_onSeat_falls (e : UnitEntry) (s : Seat) {f : SeatState → SeatState}
    (hf : ∀ x : SeatState, (f x).unconfirmed = true → x.unconfirmed = true) (h : (e.onSeat s f).urgent = true) :
    e.urgent = true := by
  rw [UnitEntry.urgent_iff] at h ⊢
  cases s with
  | a => exact h.imp_right (Or.imp_left (hf _))
  | b => exact h.imp_right (Or.imp_right (Or.imp_left (hf _)))

/-- A seat changed so that it stays UNCONFIRMED where it was keeps its unit urgent. -/
theorem UnitEntry.urgent_onSeat_rises (e : UnitEntry) (s : Seat) {f : SeatState → SeatState}
    (hf : ∀ x : SeatState, x.unconfirmed = true → (f x).unconfirmed = true) (h : e.urgent = true) :
    (e.onSeat s f).urgent = true := by
  rw [UnitEntry.urgent_iff] at h ⊢
  cases s with
  | a => exact h.imp_right (Or.imp_left (hf _))
  | b => exact h.imp_right (Or.imp_right (Or.imp_left (hf _)))

/-- A confirmation, by the message and its delivery state (R59). -/
theorem SeatState.confirm_falls (echo : Bool) (s : SeatState) (h : (s.confirm echo).unconfirmed = true) :
    s.unconfirmed = true := by
  unfold SeatState.confirm at h
  split at h
  · split at h
    · cases h
    · exact h
  · split at h
    · cases h
    · exact h
  · exact h
  · exact h

/-- An installed message is UNCONFIRMED (R57, R58). -/
theorem SeatState.installHeld_rises (s : SeatState) (h : s.unconfirmed = true) : s.installHeld.unconfirmed = true := by
  unfold SeatState.installHeld
  split
  · rfl
  · exact h

/-! ## Steps 4 and 5 of a slot's outcome (R52, R58, R65, R66) -/

/-- Held messages installed, the inquiry in flight judged by `f`, and a waiting code installed. -/
def Part.slotSteps (p : Part) (u : UnitIx) (f : Inquiry → Inquiry) : Part :=
  let held := (p.onUnit u fun e => e.onSeat .a SeatState.installHeld).onUnit u fun e => e.onSeat .b SeatState.installHeld
  (held.onUnit u fun e => { e with inquiry := f e.inquiry }).onUnit u UnitEntry.installWaiting

/-- What the two steps make of a unit's entry. -/
def UnitEntry.slotSteps (e : UnitEntry) (f : Inquiry → Inquiry) : UnitEntry :=
  { e with seatA := e.seatA.installHeld, seatB := e.seatB.installHeld, waiting := none,
           inquiry := e.waiting.elim (f e.inquiry) Inquiry.ask }

theorem UnitEntry.installWaiting_eq (e : UnitEntry) :
    e.installWaiting = { e with waiting := none, inquiry := e.waiting.elim e.inquiry Inquiry.ask } := by
  unfold UnitEntry.installWaiting
  obtain ⟨_, _, _, _, _, _, _, _, _, _, waiting⟩ := e
  cases waiting <;> rfl

/-- The unit's judgements in the two steps come to one. -/
theorem Part.setUnit_slotSteps (p : Part) (u : UnitIx) (e : UnitEntry) (l : List UnitIx) (f : Inquiry → Inquiry)
    (first : u ∈ l → e.urgent = true) :
    (p.setUnit u e l).slotSteps u f =
      p.setUnit u (e.slotSteps f) (judgeUrgent l u (e.slotSteps f).urgent) := by
  have seatA : e.urgent = true → (e.onSeat .a SeatState.installHeld).urgent = true :=
    e.urgent_onSeat_rises .a SeatState.installHeld_rises
  have seatB : (e.onSeat .a SeatState.installHeld).urgent = true → (e.slotSteps f).urgent = true :=
    UnitEntry.urgent_onSeat_rises (e.onSeat .a SeatState.installHeld) .b SeatState.installHeld_rises
  simp only [Part.slotSteps, Part.setUnit_onUnit, UnitEntry.installWaiting_eq]
  calc
    _ = p.setUnit u (e.slotSteps f) (judgeUrgent (judgeUrgent (judgeUrgent (judgeUrgent l u
          (e.onSeat .a SeatState.installHeld).urgent) u (e.slotSteps f).urgent) u (e.slotSteps f).urgent) u
          (e.slotSteps f).urgent) := rfl
    _ = _ := by
      rw [judgeUrgent_judgeUrgent, judgeUrgent_judgeUrgent, judgeUrgent_of_rising (fun h => seatA (first h)) seatB]

/-! ## A good reply (R52, R53, R55, R56, R59) -/

/-- Steps 1 and 2 of a good reply: link and miss count, flags and CHANGED, with their reports. -/
def Part.heardUnit (p : Part) (u : UnitIx) (r : Reply) : Part :=
  let q1 := p.onUnit u UnitEntry.heardFrom
  let q2 := if p.units[u].link = .silent then q1.report .unitReturn else q1
  let q3 := q2.onUnit u fun e => e.takeFlags (replyStatus r)
  if q2.units[u].watchedChange (replyStatus r) then
    (q3.onScan fun s => { s with changeSeen := true }).report .changeNow
  else q3

/-- What steps 1 and 2 do outside the unit's entry: a return is reported, a watched change seen and reported. -/
def Part.heardReports (p : Part) (returned : Prop) [Decidable returned] (changed : Bool) : Part :=
  let q := if returned then p.report .unitReturn else p
  if changed then (q.onScan fun s => { s with changeSeen := true }).report .changeNow else q

/-- The same reports, made after the unit's entry and the list are in place. -/
theorem Part.heardReports_setUnit (p : Part) (returned : Prop) [Decidable returned] (changed : Bool) (u : UnitIx)
    (e : UnitEntry) (l : List UnitIx) :
    (p.heardReports returned changed).setUnit u e l =
      let q : Part := { p with
        units := p.units.set u e
        scan := { p.scan with changeSeen := p.scan.changeSeen || changed, urgent := l } }
      let q' := if returned then q.report .unitReturn else q
      if changed then q'.report .changeNow else q' := by
  cases changed with
  | true =>
    simp only [Part.heardReports, Bool.or_true, if_true]
    split <;> rfl
  | false =>
    simp only [Part.heardReports, Bool.or_false, Bool.false_eq_true, if_false]
    split <;> rfl

theorem UnitEntry.heardFrom_eq {e : UnitEntry} (on : e.link ≠ .disabled) :
    e.heardFrom = { e with misses := 0, link := .present } := by
  rw [UnitEntry.heardFrom, if_neg on]

/-- A change that leaves seats and echo flag, of a unit that is enabled before and after, leaves its urgency. -/
theorem UnitEntry.urgent_congr {e f : UnitEntry} (he : e.link ≠ .disabled) (hf : f.link ≠ .disabled)
    (seatA : f.seatA = e.seatA) (seatB : f.seatB = e.seatB) (echo : f.echo = e.echo) : f.urgent = e.urgent := by
  rw [UnitEntry.urgent, UnitEntry.urgent, e.enabled_iff.2 he, f.enabled_iff.2 hf, seatA, seatB, echo]

theorem UnitEntry.heardFrom_urgent {e : UnitEntry} (on : e.link ≠ .disabled) : e.heardFrom.urgent = e.urgent := by
  rw [UnitEntry.heardFrom_eq on]
  exact UnitEntry.urgent_congr on (fun h => by cases h) rfl rfl rfl

theorem Part.heardUnit_eq {p : Part} (law : p.urgentLaw) (u : UnitIx) (r : Reply) (on : p.units[u].link ≠ .disabled) :
    p.heardUnit u r =
      (p.heardReports (p.units[u].link = .silent) (p.units[u].watchedChange (replyStatus r))).setUnit u
        (p.units[u].heardFrom.takeFlags (replyStatus r)) p.scan.urgent := by
  have heard := UnitEntry.heardFrom_urgent on
  have returned : (if p.units[u].link = .silent then (p.onUnit u UnitEntry.heardFrom).report .unitReturn
      else p.onUnit u UnitEntry.heardFrom) =
      (if p.units[u].link = .silent then p.report .unitReturn else p).setUnit u p.units[u].heardFrom p.scan.urgent := by
    rw [Part.onUnit_eq_setUnit, law.judge heard]
    split <;> rfl
  have flags : judgeUrgent p.scan.urgent u (p.units[u].heardFrom.takeFlags (replyStatus r)).urgent = p.scan.urgent :=
    law.judge heard
  have watched : p.units[u].heardFrom.watchedChange (replyStatus r) = p.units[u].watchedChange (replyStatus r) := rfl
  simp only [Part.heardUnit, Part.heardReports]
  rw [returned, Part.setUnit_unit, Part.setUnit_onUnit, flags, watched]
  split <;> rfl

/-- Step 3: the unit's echoes judged against its seats' messages (R59). -/
def Part.confirmUnit (p : Part) (u : UnitIx) (echoA echoB : Bool) : Part :=
  (p.onUnit u fun e => e.onSeat .a fun x => x.confirm echoA).onUnit u fun e => e.onSeat .b fun x => x.confirm echoB

def UnitEntry.confirmed (e : UnitEntry) (echoA echoB : Bool) : UnitEntry :=
  { e with seatA := e.seatA.confirm echoA, seatB := e.seatB.confirm echoB }

/-- The unit's judgements in step 3 come to one. -/
theorem Part.setUnit_confirmUnit (p : Part) (u : UnitIx) (e : UnitEntry) (l : List UnitIx) (echoA echoB : Bool)
    (first : e.urgent = true → u ∈ l) :
    (p.setUnit u e l).confirmUnit u echoA echoB =
      p.setUnit u (e.confirmed echoA echoB) (judgeUrgent l u (e.confirmed echoA echoB).urgent) := by
  have seatA : (e.onSeat .a fun x => x.confirm echoA).urgent = true → e.urgent = true :=
    e.urgent_onSeat_falls .a (SeatState.confirm_falls echoA)
  have seatB : (e.confirmed echoA echoB).urgent = true → (e.onSeat .a fun x => x.confirm echoA).urgent = true :=
    UnitEntry.urgent_onSeat_falls (e.onSeat .a fun x => x.confirm echoA) .b (SeatState.confirm_falls echoB)
  rw [Part.confirmUnit, Part.setUnit_onUnit, Part.setUnit_onUnit]
  calc
    _ = p.setUnit u (e.confirmed echoA echoB) (judgeUrgent (judgeUrgent l u
          (e.onSeat .a fun x => x.confirm echoA).urgent) u (e.confirmed echoA echoB).urgent) := rfl
    _ = _ := by rw [judgeUrgent_of_falling (fun h => first (seatA h)) seatB]

theorem Part.goodReply_eq_steps (p : Part) (u : UnitIx) (r : Reply) :
    p.goodReply u r =
      ((p.heardUnit u r).confirmUnit u (replyEcho r .a) (replyEcho r .b)).slotSteps u
        fun q => q.answered r.result1 r.result2 := rfl

/-- The unit's entry after steps 1 to 3. -/
def UnitEntry.heardReply (e : UnitEntry) (r : Reply) : UnitEntry :=
  (e.heardFrom.takeFlags (replyStatus r)).confirmed (replyEcho r .a) (replyEcho r .b)

/-- The unit's entry after steps 1 to 5. -/
def UnitEntry.replied (e : UnitEntry) (r : Reply) : UnitEntry :=
  (e.heardReply r).slotSteps fun q => q.answered r.result1 r.result2

/-- A good reply as one change of the unit, the urgent list judged after the confirmations and after the installations
(R60). -/
theorem Part.goodReply_eq {p : Part} (law : p.urgentLaw) (u : UnitIx) (r : Reply) (on : p.units[u].link ≠ .disabled) :
    p.goodReply u r =
      (p.heardReports (p.units[u].link = .silent) (p.units[u].watchedChange (replyStatus r))).setUnit u
        (p.units[u].replied r)
        (judgeUrgent (judgeUrgent p.scan.urgent u (p.units[u].heardReply r).urgent) u
          (p.units[u].replied r).urgent) := by
  have heard : (p.units[u].heardFrom.takeFlags (replyStatus r)).urgent = p.units[u].urgent :=
    UnitEntry.heardFrom_urgent on
  rw [Part.goodReply_eq_steps, Part.heardUnit_eq law u r on,
    Part.setUnit_confirmUnit _ u _ _ _ _ fun h => (law.2 u).2 (heard.symm.trans h)]
  refine Part.setUnit_slotSteps _ u (p.units[u].heardReply r) _ _ fun h => ?_
  rwa [mem_judgeUrgent, if_pos rfl] at h

/-- Settles O31: the run of changes comes to one, and the reports stand beside it. -/
theorem goodReplySteps : Obligations.GoodReplySteps := by
  unfold Obligations.GoodReplySteps
  intro p u r law on e flags changed confirm install e3 e5 q returned
  have confirms (x : SeatState) (echo : Bool) : x.confirm echo = confirm x echo := by
    obtain ⟨_ | ⟨_ | _, _ | _⟩, toggle, holder, last⟩ := x
    · rfl
    · rfl
    · exact ite_self _
    · rfl
    · rfl
  have installs (x : SeatState) : x.installHeld = install x := rfl
  have third : e.heardReply r = e3 := by
    rw [UnitEntry.heardReply, UnitEntry.heardFrom_eq on, UnitEntry.confirmed, confirms, confirms]
    rfl
  have fifth : e.replied r = e5 := by
    have inquiry : e.waiting.elim (e.inquiry.answered r.result1 r.result2) Inquiry.ask = e5.inquiry := by
      cases hw : e.waiting <;> simp only [e5, hw] <;> rfl
    rw [UnitEntry.replied, third, UnitEntry.slotSteps, installs, installs]
    simp only [e3, inquiry]
    rfl
  have steps := Part.goodReply_eq law u r on
  rw [third, fifth, Part.heardReports_setUnit] at steps
  exact steps

/-! ## A miss (R54, R55) -/

/-- Steps 1 to 3 of a miss: the miss count, SILENT with its report, and CHANGED cleared. -/
def Part.missedUnit (p : Part) (u : UnitIx) : Part :=
  let silent := p.units[u].goesSilent p.settings.active.silentThreshold
  let q1 := p.onUnit u fun e => e.missed p.settings.active.silentThreshold
  let q2 := if silent then q1.countSilent else q1
  q2.onUnit u fun e => { e with changed := false }

theorem Part.miss_eq_steps (p : Part) (u : UnitIx) : p.miss u = (p.missedUnit u).slotSteps u Inquiry.unanswered := rfl

/-- The unit becomes SILENT at the miss that reaches the threshold. -/
theorem UnitEntry.goesSilent_iff {e : UnitEntry} (on : e.link ≠ .disabled) (threshold : Nat) :
    e.goesSilent threshold = true ↔ e.link ≠ .silent ∧ threshold ≤ countUp 15 e.misses := by
  unfold UnitEntry.goesSilent
  cases h : e.link <;> simp_all

theorem UnitEntry.missed_eq {e : UnitEntry} (threshold : Nat) :
    e.missed threshold =
      { e with misses := countUp 15 e.misses, link := if e.goesSilent threshold then .silent else e.link,
               inquiry := if e.goesSilent threshold then e.inquiry.fail else e.inquiry } := by
  unfold UnitEntry.missed
  split <;> rfl

/-- The inquiry of a unit that is missed: failed where the unit becomes SILENT, else asked again (R65, R66). -/
theorem Inquiry.missed_eq (q : Inquiry) (silent : Prop) [Decidable silent] :
    (if silent then q.fail else q).unanswered =
      if silent ∧ (q.state = .pending ∨ q.state = .sent) then { q with state := .failed }
      else if q.state = .sent then { q with state := .pending }
      else q := by
  by_cases hs : silent
  · by_cases live : q.state = .pending ∨ q.state = .sent
    · rw [if_pos hs, if_pos ⟨hs, live⟩, Inquiry.fail, if_pos live]
      rfl
    · rw [if_pos hs, if_neg (fun h => live h.2), Inquiry.fail, if_neg live]
      rfl
  · rw [if_neg hs, if_neg (fun h => hs h.1)]
    rfl

theorem UnitEntry.missed_urgent {e : UnitEntry} (on : e.link ≠ .disabled) (threshold : Nat) :
    (e.missed threshold).urgent = e.urgent := by
  refine UnitEntry.urgent_congr on ?_ ?_ ?_ ?_ <;> rw [UnitEntry.missed_eq]
  dsimp only
  split
  · exact nofun
  · exact on

theorem Part.missedUnit_eq {p : Part} (law : p.urgentLaw) (u : UnitIx) (on : p.units[u].link ≠ .disabled) :
    p.missedUnit u =
      (if p.units[u].goesSilent p.settings.active.silentThreshold then p.countSilent else p).setUnit u
        { p.units[u].missed p.settings.active.silentThreshold with changed := false } p.scan.urgent := by
  have missed := UnitEntry.missed_urgent on p.settings.active.silentThreshold
  have counted : (if p.units[u].goesSilent p.settings.active.silentThreshold then
        (p.onUnit u fun e => e.missed p.settings.active.silentThreshold).countSilent
      else p.onUnit u fun e => e.missed p.settings.active.silentThreshold) =
      (if p.units[u].goesSilent p.settings.active.silentThreshold then p.countSilent else p).setUnit u
        (p.units[u].missed p.settings.active.silentThreshold) p.scan.urgent := by
    rw [Part.onUnit_eq_setUnit, law.judge missed]
    split <;> rfl
  have cleared : judgeUrgent p.scan.urgent u
      (UnitEntry.urgent { p.units[u].missed p.settings.active.silentThreshold with changed := false }) =
      p.scan.urgent := law.judge missed
  simp only [Part.missedUnit]
  rw [counted, Part.setUnit_onUnit, cleared]

/-- The unit's entry after a miss. -/
def UnitEntry.unheard (e : UnitEntry) (threshold : Nat) : UnitEntry :=
  UnitEntry.slotSteps { e.missed threshold with changed := false } Inquiry.unanswered

/-- A miss as one change of the unit. -/
theorem Part.miss_eq {p : Part} (law : p.urgentLaw) (u : UnitIx) (on : p.units[u].link ≠ .disabled) :
    p.miss u =
      (if p.units[u].goesSilent p.settings.active.silentThreshold then p.countSilent else p).setUnit u
        (p.units[u].unheard p.settings.active.silentThreshold)
        (judgeUrgent p.scan.urgent u (p.units[u].unheard p.settings.active.silentThreshold).urgent) := by
  rw [Part.miss_eq_steps, Part.missedUnit_eq law u on]
  refine Part.setUnit_slotSteps _ u _ _ _ fun h => ?_
  exact (UnitEntry.missed_urgent on _).trans ((law.2 u).1 h)

/-- Settles O32, by whether the miss makes the unit SILENT. -/
theorem missSteps : Obligations.MissSteps := by
  unfold Obligations.MissSteps
  intro p u law on e misses falls install live e5 q
  have silent : e.goesSilent p.settings.active.silentThreshold = true ↔ falls := UnitEntry.goesSilent_iff on _
  have installs (x : SeatState) : x.installHeld = install x := rfl
  have fifth : e.unheard p.settings.active.silentThreshold = e5 := by
    have link : (if e.goesSilent p.settings.active.silentThreshold then .silent else e.link) = e5.link :=
      if_congr silent rfl rfl
    have inquiry : e.waiting.elim
        (if e.goesSilent p.settings.active.silentThreshold then e.inquiry.fail else e.inquiry).unanswered Inquiry.ask =
        e5.inquiry := by
      rw [if_congr silent rfl rfl, Inquiry.missed_eq]
      cases hw : e.waiting <;> simp only [e5, hw] <;> rfl
    rw [UnitEntry.unheard, UnitEntry.missed_eq, UnitEntry.slotSteps, installs, installs]
    simp only [link, inquiry]
    rfl
  have steps := Part.miss_eq law u on
  rw [fifth] at steps
  refine ⟨fun h => ?_, fun h => ?_⟩
  · rw [if_pos (silent.2 h)] at steps
    exact steps
  · rw [if_neg (fun hs => h (silent.1 hs))] at steps
    exact steps

end Sys2Proof.Machine
end

section
namespace Sys2Proof.Machine

/-! ## The outcome of a slot (R52, R85, R86) -/

theorem replyChecks_iff (r : Reply) :
    replyChecks r = true ↔ checkWord [r.addressStatus, r.eventA, r.eventB, r.result1, r.result2] = r.check :=
  decide_eq_true_iff

theorem replyAddress_eq (r : Reply) : replyAddress r = r.addressStatus.toNat % 256 := by
  simp [replyAddress, bitsOf]

theorem Part.roundIf_decide (p : Part) (cause : Prop) [Decidable cause] :
    p.roundIf (decide cause) = if cause then p.round else p := by
  simp only [Part.roundIf, decide_eq_true_eq]

section
variable {p : Part} {ticks : Nat} {u : UnitIx} {k : SlotKind} {r : Reply}

/-- A complete reply, by its check and its address (R86). -/
theorem Part.replyIn_eq (radio : p.scan.radio = .window ticks .started) (shown : p.scan.slotShown = some (u, k)) :
    p.replyIn r =
      if !replyChecks r then p.onScan fun x => { x with radio := .window ticks .corrupt }
      else if replyAddress r = unitNumber u then p.slotGood u r
      else p.onScan fun x => { x with radio := .window ticks .wrongAddress } := by
  simp only [Part.replyIn, radio, shown]

/-- A complete reply whose check fails leaves the slot to the window's close (R86). -/
theorem Part.replyIn_corrupt (radio : p.scan.radio = .window ticks .started) (shown : p.scan.slotShown = some (u, k))
    (fails : ¬replyChecks r = true) :
    p.replyIn r = { p with scan := { p.scan with radio := .window ticks .corrupt } } := by
  rw [Part.replyIn_eq radio shown, Bool.eq_false_iff.2 fails]
  rfl

/-- So does one of another unit. -/
theorem Part.replyIn_wrongAddress (radio : p.scan.radio = .window ticks .started)
    (shown : p.scan.slotShown = some (u, k)) (checks : replyChecks r = true)
    (other : ¬r.addressStatus.toNat % 256 = u.val + 1) :
    p.replyIn r = { p with scan := { p.scan with radio := .window ticks .wrongAddress } } := by
  have address : ¬replyAddress r = unitNumber u := by rwa [replyAddress_eq]
  rw [Part.replyIn_eq radio shown, checks, if_neg (by decide), if_neg address]
  rfl

theorem Part.replyIn_good (radio : p.scan.radio = .window ticks .started) (shown : p.scan.slotShown = some (u, k))
    (checks : replyChecks r = true) (own : r.addressStatus.toNat % 256 = u.val + 1) :
    p.replyIn r = p.slotGood u r := by
  have address : replyAddress r = unitNumber u := by rwa [replyAddress_eq]
  rw [Part.replyIn_eq radio shown, checks, if_neg (by decide), if_pos address]

end

/-- A good reply ends its slot: the steps, the seat events, the round of a return, the boundary (R52). -/
theorem Part.slotGood_eq (p : Part) (u : UnitIx) (r : Reply) :
    p.slotGood u r =
      let steps := Part.goodReply { p with scan := { p.scan with radio := .quiet } } u r
      let events := (steps.judgeEvent u .a r.eventA).judgeEvent u .b r.eventB
      (if p.units[u].link = .silent then events.round else events).boundary := by
  simp only [Part.slotGood, Part.replyEvents, Part.roundIf_decide]
  rfl

theorem Part.slotMissed_eq (p : Part) (u : UnitIx) :
    p.slotMissed u = (Part.miss { p with scan := { p.scan with radio := .quiet } } u).boundary := rfl

/-- The corrupt counter at the close of a window: a reply that failed its check, or was cut off, is counted (R86). -/
def Part.windowCounted (p : Part) (heard : Heard) : Part :=
  if heard = .corrupt ∨ heard = .started then p.countCorrupt else p

theorem Part.windowCounted_eq (p : Part) (heard : Heard) :
    p.windowCounted heard =
      { p with check := { p.check with
          corrupt := if heard = .corrupt ∨ heard = .started then
                       (if p.check.corrupt < 65535 then p.check.corrupt + 1 else p.check.corrupt)
                     else p.check.corrupt } } := by
  unfold Part.windowCounted
  split <;> rfl

/-- The close of the reply window is a miss, by what was heard a counted one (R86). -/
theorem Part.windowCloses_eq {p : Part} {ticks : Nat} {heard : Heard} {u : UnitIx} {k : SlotKind}
    (radio : p.scan.radio = .window ticks heard) (shown : p.scan.slotShown = some (u, k)) :
    p.windowCloses = (p.windowCounted heard).slotMissed u := by
  simp only [Part.windowCloses, radio, shown]
  cases heard with
  | nothing | wrongAddress | started | corrupt => rfl

/-- Settles O30: the complete reply by its check and address, the window's close by what was heard. -/
theorem slotOutcome : Obligations.SlotOutcome := by
  unfold Obligations.SlotOutcome
  refine ⟨fun s r ln ticks u k radio shown => ?_, fun s ln ticks heard u k radio shown => ?_⟩
  · intro p told checks own
    have check : replyChecks r = true ↔ checks := replyChecks_iff r
    refine ⟨fun fails => s.next_part (Part.replyIn_corrupt (p := p) radio shown fun h => fails (check.1 h)),
      fun right other => s.next_part (Part.replyIn_wrongAddress (p := p) radio shown (check.2 right) other),
      fun right mine => s.next_part ?_⟩
    exact (Part.replyIn_good (p := p) radio shown (check.2 right) mine).trans (p.slotGood_eq u r)
  · intro p counted
    have close : p.windowCloses = (p.windowCounted heard).slotMissed u := Part.windowCloses_eq radio shown
    rw [p.windowCounted_eq, Part.slotMissed_eq] at close
    exact s.next_part close

/-! ## The end of a frame head (R60, R65, R76, R79, R83) -/

theorem lastEventCode_lt (x : Option Bool) : lastEventCode x < 4 := by
  match x with
  | none | some false | some true => decide

/-- The first word of a packet: the unit's number and the packet's mark (11.3). -/
theorem packetAddressWord (u : UnitIx) :
    join [field 0 8 (unitNumber u), field 12 4 0x5] = BitVec.ofNat 16 (u.val + 1 + 0x5000) := by
  have bound := u.isLt
  refine (eq_packed_of_join [(0, 8, unitNumber u), (12, 4, 0x5)] rfl rfl).trans ?_
  refine congrArg (BitVec.ofNat 16) ?_
  simp only [List.map_cons, List.map_nil, List.sum_cons, List.sum_nil, unitNumber]
  omega

/-- The last word of a packet: the event toggles last accepted and the inquiry's code (11.3). -/
theorem packetInquiryWord (a b : Option Bool) (c : Nat) (hc : c < 16) :
    join [field 0 2 (lastEventCode a), field 2 2 (lastEventCode b), field 8 4 c] =
      BitVec.ofNat 16 (lastEventCode a + 4 * lastEventCode b + 256 * c) := by
  have ha := lastEventCode_lt a
  have hb := lastEventCode_lt b
  refine (eq_packed_of_join [(0, 2, lastEventCode a), (2, 2, lastEventCode b), (8, 4, c)] rfl rfl).trans ?_
  refine congrArg (BitVec.ofNat 16) ?_
  simp only [List.map_cons, List.map_nil, List.sum_cons, List.sum_nil]
  omega

theorem Inquiry.carriedCode_lt (q : Inquiry) : q.carriedCode < 16 := by
  unfold Inquiry.carriedCode
  split
  · exact q.code.isLt
  · decide

/-- The packet to a unit, built from its entry (11.3). -/
theorem UnitEntry.packet_eq (e : UnitEntry) (u : UnitIx) :
    e.packet u =
      let body : List Word :=
        [ BitVec.ofNat 16 (u.val + 1 + 0x5000), e.seatA.packetWord, e.seatB.packetWord,
          BitVec.ofNat 16 (lastEventCode e.seatA.lastEvent + 4 * lastEventCode e.seatB.lastEvent +
            256 * e.inquiry.carriedCode) ]
      0x7E42 :: (body ++ [checkWord body]) := by
  rw [UnitEntry.packet, packetAddressWord, packetInquiryWord _ _ _ e.inquiry.carriedCode_lt]
  rfl

theorem Part.headSent_boundary {p : Part} {words : List Word} {control : Word}
    (radio : p.scan.radio = .head words control none) :
    p.headSent = Part.boundary { p with scan := { p.scan with lastHead := control, radio := .quiet } } := by
  simp only [Part.headSent, radio]
  rfl

theorem Part.headSent_slot {p : Part} {words : List Word} {control : Word} {u : UnitIx} {k : SlotKind}
    (radio : p.scan.radio = .head words control (some (u, k))) :
    p.headSent = Part.beginSlot { p with scan := { p.scan with lastHead := control, radio := .quiet } } u k := by
  simp only [Part.headSent, radio]
  rfl

/-- Settles O38, by the slot chosen before the head. -/
theorem frameHeadEnded : Obligations.FrameHeadEnded := by
  unfold Obligations.FrameHeadEnded
  intro s ln words control next radio p q
  refine ⟨fun hnext => ?_, fun u k hnext => ?_⟩
  · subst hnext
    exact s.next_part (Part.headSent_boundary (p := p) radio)
  · subst hnext
    intro e code body shown
    have packet : q.units[u].packet u = 0x7E42 :: (body ++ [checkWord body]) := e.packet_eq u
    have begun : q.beginSlot u k = shown.onUnit u UnitEntry.beginPacket := by
      rw [Part.beginSlot, packet]
      rfl
    exact s.next_part ((Part.headSent_slot (p := p) radio).trans begun)

/-! ## The cycle end (R56, R88, R89) -/

theorem Part.stopPending_iff (p : Part) :
    p.stopPending = true ↔ p.settings.active.scanRun = true ∧ p.settings.staged.scanRun = false := by
  rw [Part.stopPending, Bool.and_eq_true, Bool.not_eq_true']

theorem Part.anyCalling_eq_false_iff (p : Part) :
    p.anyCalling = false ↔ ∀ k : Slot, p.engine.incidents[k].state ≠ .calling := by
  simp only [Part.anyCalling, Part.incident, List.any_eq_false, List.mem_finRange, forall_true_left]
  exact forall_congr' fun k => not_congr decide_eq_true_iff

/-- The hold decision (R89). -/
theorem Part.holds_iff (p : Part) (latched : Bool) :
    p.holds latched = true ↔ p.settings.active.link.holdEnable = true ∧ latched = true ∧
      (∀ k : Slot, p.engine.incidents[k].state ≠ .calling) ∧ p.scan.urgent = [] := by
  rw [Part.holds, ← p.anyCalling_eq_false_iff]
  simp only [Bool.and_eq_true, Bool.not_eq_true', List.isEmpty_iff, and_assoc]

/-- The part once CHANGE-FOUND and its latch, and CYCLE-END, are reported (R56, R88). -/
def Part.cycleMarked (p : Part) : Part := p.markChange.report .cycleEnd

theorem Part.cycleMarked_eq (p : Part) :
    p.cycleMarked =
      let found : Part := { p with scan := { p.scan with changeFound := p.scan.changeSeen, radio := .quiet } }
      (if p.scan.changeSeen then found.report .changeCycle else found).report .cycleEnd := rfl

theorem Part.cycleMarked_settings (p : Part) : p.cycleMarked.settings = p.settings := p.markChange_settings

theorem Part.cycleMarked_engine (p : Part) : p.cycleMarked.engine = p.engine := p.markChange_engine

theorem Part.cycleMarked_urgent (p : Part) : p.cycleMarked.scan.urgent = p.scan.urgent := by
  rw [Part.cycleMarked_eq]
  cases p.scan.changeSeen <;> rfl

/-- CHANGE-CYCLE is latched at this cycle end. -/
def Part.changeLatched (p : Part) : Bool := p.scan.changeSeen && p.enabledSource .changeCycle

/-- The cycle end, by the pending stop and the open incidents (R88). -/
theorem Part.endCycle_eq (p : Part) :
    p.endCycle =
      if p.stopPending then
        if p.anyOpen then p.cycleMarked.refuseStop.holdOrStart p.changeLatched else p.cycleMarked.stopLink
      else p.cycleMarked.holdOrStart p.changeLatched := by
  have pending : p.cycleMarked.stopPending = p.stopPending := by
    rw [Part.stopPending, Part.stopPending, p.cycleMarked_settings]
  have opened : p.cycleMarked.anyOpen = p.anyOpen := by
    unfold Part.anyOpen Part.isOpen Part.incident
    rw [p.cycleMarked_engine]
  rw [← pending, ← opened]
  rfl

/-- The part that a cycle end goes on from: a pending stop has been refused (R24). -/
def Part.cycleGoesOn (p : Part) : Part := if p.stopPending then p.cycleMarked.refuseStop else p.cycleMarked

/-- Where nothing stops the link, the hold or the next attempt follows. -/
theorem Part.endCycle_goesOn {p : Part} (h : ¬p.stopPending = true ∨ p.anyOpen = true) :
    p.endCycle = p.cycleGoesOn.holdOrStart p.changeLatched := by
  rw [Part.endCycle_eq, Part.cycleGoesOn]
  by_cases pending : p.stopPending = true
  · rw [if_pos pending, if_pos pending, if_pos (h.resolve_left fun running => running pending)]
  · rw [if_neg pending, if_neg pending]

/-- The hold is decided by the settings active, the incidents and the urgent list. -/
theorem Part.holds_congr {p q : Part} (active : q.settings.active = p.settings.active) (engine : q.engine = p.engine)
    (urgent : q.scan.urgent = p.scan.urgent) (latched : Bool) : q.holds latched = p.holds latched := by
  unfold Part.holds Part.anyCalling Part.incident
  rw [active, engine, urgent]

theorem Part.cycleGoesOn_active (p : Part) : p.cycleGoesOn.settings.active = p.settings.active := by
  have marked := congrArg SettingsStore.active p.cycleMarked_settings
  unfold Part.cycleGoesOn
  split
  · exact marked
  · exact marked

theorem Part.cycleGoesOn_engine (p : Part) : p.cycleGoesOn.engine = p.engine := by
  unfold Part.cycleGoesOn
  split
  · exact p.cycleMarked.refuseStop_engine.trans p.cycleMarked_engine
  · exact p.cycleMarked_engine

theorem Part.cycleGoesOn_urgent (p : Part) : p.cycleGoesOn.scan.urgent = p.scan.urgent := by
  unfold Part.cycleGoesOn
  split
  · exact (congrArg Scan.urgent p.cycleMarked.refuseStop_scan).trans p.cycleMarked_urgent
  · exact p.cycleMarked_urgent

theorem Part.cycleGoesOn_holds (p : Part) (latched : Bool) : p.cycleGoesOn.holds latched = p.holds latched :=
  Part.holds_congr p.cycleGoesOn_active p.cycleGoesOn_engine p.cycleGoesOn_urgent latched

/-- A refused stop: the error is recorded and the staged value returns to on (R24). -/
theorem Part.refuseStop_eq (p : Part) :
    p.refuseStop =
      let kept := p.errorKept .stopRefused 0
      { kept with settings := { kept.settings with staged := { p.settings.staged with scanRun := true } } } := rfl

theorem Part.enterHold_eq (p : Part) :
    p.enterHold = { p with scan := { p.scan with
      phase := .holding
      guardTimer := some { seconds := p.settings.active.link.holdGuard, scaled := p.settings.active.testScale } } } :=
  rfl

theorem Part.changeLatched_iff (p : Part) :
    p.changeLatched = true ↔ p.scan.changeSeen = true ∧ p.notify.b.enables.getLsbD 3 = true := by
  rw [Part.changeLatched, Bool.and_eq_true]
  rfl

/-- Settles O41, by the pending stop, the open incidents and the hold decision. -/
theorem cycleEnded : Obligations.CycleEnded := by
  unfold Obligations.CycleEnded
  intro p found marked latched x pending isOpen kept refused goesOn holds
  have stop : p.stopPending = true ↔ pending := p.stopPending_iff
  have opened : p.anyOpen = true ↔ isOpen := p.anyOpen_iff
  have decided : p.cycleGoesOn.holds p.changeLatched = true ↔ holds := by
    rw [p.cycleGoesOn_holds, p.holds_iff, p.changeLatched_iff]
  have refusal : p.cycleMarked.refuseStop = refused := by
    rw [Part.refuseStop_eq, p.cycleMarked_settings]
    rfl
  have follows : p.cycleGoesOn = goesOn := by
    rw [Part.cycleGoesOn, refusal]
    exact if_congr stop rfl rfl
  have goes (h : ¬pending ∨ isOpen) : p.endCycle = p.cycleGoesOn.holdOrStart p.changeLatched :=
    Part.endCycle_goesOn (by rwa [stop, opened])
  refine ⟨fun hp hclosed => ?_, fun h hh => ?_, fun h hh => ?_⟩
  · rw [p.endCycle_eq, if_pos (stop.2 hp), if_neg fun ho => hclosed (opened.1 ho)]
    rfl
  · rw [goes h, Part.holdOrStart, if_pos (decided.2 hh), Part.enterHold_eq, p.cycleGoesOn_active, follows]
  · rw [goes h, Part.holdOrStart, if_neg fun hd => hh (decided.1 hd), follows]

end Sys2Proof.Machine
end

/-! # The scan cycle: the proofs of the statements about attempts, heads, waits, slots and the link law -/

section
namespace Sys2Proof.Machine

/-! ## The link law (R72 to R75, R89, R91, R92) -/

/-- The phase and the three timers of the scan. -/
def Scan.waits (s : Scan) : LinkPhase × Bool × Option Nat × Option GuardTimer :=
  (s.phase, s.retryTimer, s.lbtTimer, s.guardTimer)

/-- All that the link law reads. -/
def Part.linkView (p : Part) :
    (LinkPhase × Bool × Option Nat × Option GuardTimer) × Radio × Bool × TestPhase × Vector Incident 4 :=
  (p.scan.waits, p.scan.radio, p.settings.active.scanRun, p.check.test, p.engine.incidents)

/-- The link law but for a hold that may have been ended, the attempt that follows it still to come (R90; log 9). -/
structure Part.linkWorks (p : Part) : Prop where
  stopped : p.scan.phase = .stopped ↔ p.settings.active.scanRun = false
  retry : p.scan.retryTimer = true ↔ ∃ c, p.scan.phase = .retryWait c
  channel : p.scan.lbtTimer.isSome = true ↔ p.scan.phase = .channelWait
  guard : p.scan.guardTimer.isSome = true → p.scan.phase = .holding
  radio : p.scan.radio ≠ .quiet ↔ p.scan.phase = .cycling
  test : p.check.test ≠ .idle → p.scan.phase = .stopped
  opened : p.anyOpen = true → p.settings.active.scanRun = true

theorem Part.linkLaw_iff (p : Part) : p.linkLaw ↔ p.linkWorks ∧ p.holdStands := by
  have guard : (p.scan.guardTimer.isSome = true ↔ p.scan.phase = .holding) ↔
      (p.scan.guardTimer.isSome = true → p.scan.phase = .holding) ∧ p.holdStands := by
    rw [Part.holdStands, ← Option.isSome_iff_ne_none]
    exact iff_def
  constructor
  · rintro ⟨stopped, retry, channel, held, radio, test, opened⟩
    exact ⟨⟨stopped, retry, channel, (guard.1 held).1, radio, test, opened⟩, (guard.1 held).2⟩
  · rintro ⟨h, stands⟩
    exact ⟨h.stopped, h.retry, h.channel, guard.2 ⟨h.guard, stands⟩, h.radio, h.test, h.opened⟩

/-- The link runs, so no test does. -/
structure Part.linkRuns (p : Part) : Prop where
  run : p.settings.active.scanRun = true
  idle : p.check.test = .idle

/-- A cycle is under way: no wait's timer runs. The radio is not fixed: it changes within the cycle. -/
structure Part.inCycle (p : Part) : Prop where
  runs : p.linkRuns
  waits : p.scan.waits = (.cycling, false, none, none)

section
variable {p q : Part}

theorem Part.anyOpen_congr (same : q.engine.incidents = p.engine.incidents) : q.anyOpen = p.anyOpen := by
  unfold Part.anyOpen Part.isOpen Part.incident
  rw [same]

theorem Part.linkWorks.frame (h : p.linkWorks) (same : q.linkView = p.linkView) : q.linkWorks := by
  simp only [Part.linkView, Scan.waits, Prod.mk.injEq] at same
  obtain ⟨⟨phase, retry, channel, guard⟩, radio, run, test, incidents⟩ := same
  refine ⟨?_, ?_, ?_, ?_, ?_, ?_, ?_⟩
  · rw [phase, run]; exact h.stopped
  · rw [phase, retry]; exact h.retry
  · rw [phase, channel]; exact h.channel
  · rw [phase, guard]; exact h.guard
  · rw [phase, radio]; exact h.radio
  · rw [phase, test]; exact h.test
  · rw [Part.anyOpen_congr incidents, run]; exact h.opened

theorem Part.linkLaw.works (h : p.linkLaw) : p.linkWorks := (p.linkLaw_iff.1 h).1

theorem Part.linkLaw.holdStands (h : p.linkLaw) : p.holdStands := (p.linkLaw_iff.1 h).2

/-- Work that touches nothing the law reads. -/
theorem Part.linkLaw.frame (h : p.linkLaw) (same : q.linkView = p.linkView) : q.linkLaw := by
  refine q.linkLaw_iff.2 ⟨h.works.frame same, ?_⟩
  simp only [Part.linkView, Scan.waits, Prod.mk.injEq] at same
  obtain ⟨⟨phase, -, -, guard⟩, -⟩ := same
  rw [Part.holdStands, phase, guard]
  exact h.holdStands

/-- Work on the link tests: a test runs after it only while the link is stopped. -/
theorem Part.linkLaw.tested (h : p.linkLaw) (scan : q.scan = p.scan)
    (run : q.settings.active.scanRun = p.settings.active.scanRun) (engine : q.engine = p.engine)
    (test : q.check.test ≠ .idle → p.scan.phase = .stopped) : q.linkLaw := by
  have opened : q.anyOpen = p.anyOpen := Part.anyOpen_congr (by rw [engine])
  obtain ⟨works, stands⟩ := p.linkLaw_iff.1 h
  refine q.linkLaw_iff.2 ⟨⟨?_, ?_, ?_, ?_, ?_, ?_, ?_⟩, ?_⟩
  · rw [scan, run]; exact works.stopped
  · rw [scan]; exact works.retry
  · rw [scan]; exact works.channel
  · rw [scan]; exact works.guard
  · rw [scan]; exact works.radio
  · rw [scan]; exact test
  · rw [opened, run]; exact works.opened
  · rw [Part.holdStands, scan]; exact stands

/-- Callout work can end a hold, and otherwise leaves the link as it is. -/
theorem Calm.linkWorks (c : Calm p q) (h : p.linkWorks) : q.linkWorks := by
  obtain ⟨-, -, -, settings, check⟩ := c.rest
  have retry : q.scan.retryTimer = p.scan.retryTimer := by rw [c.scan]
  have channel : q.scan.lbtTimer = p.scan.lbtTimer := by rw [c.scan]
  have radio : q.scan.radio = p.scan.radio := by rw [c.scan]
  refine ⟨?_, ?_, ?_, ?_, ?_, ?_, fun opened => ?_⟩
  · rw [c.phase, settings]; exact h.stopped
  · rw [c.phase, retry]; exact h.retry
  · rw [c.phase, channel]; exact h.channel
  · rw [c.phase]
    rcases c.guard with same | ⟨holding, -⟩
    · rw [same]; exact h.guard
    · exact fun _ => holding
  · rw [c.phase, radio]; exact h.radio
  · rw [c.phase, check]; exact h.test
  · obtain ⟨k, hk⟩ := q.anyOpen_iff.1 opened
    rw [settings]
    exact (c.opened k hk).elim (fun before => h.opened (p.anyOpen_iff.2 ⟨k, before⟩)) id

/-- Where no hold stands, callout work ends none. -/
theorem Calm.linkLaw (c : Calm p q) (h : p.linkLaw) (phase : p.scan.phase ≠ .holding) : q.linkLaw :=
  q.linkLaw_iff.2 ⟨c.linkWorks h.works, fun holding => absurd (c.phase.symm.trans holding) phase⟩

theorem Part.linkRuns.calm (h : p.linkRuns) (c : Calm p q) : q.linkRuns := by
  obtain ⟨-, -, -, settings, check⟩ := c.rest
  exact ⟨by rw [settings]; exact h.run, by rw [check]; exact h.idle⟩

theorem Part.linkWorks.runs (h : p.linkWorks) (phase : p.scan.phase ≠ .stopped) : p.linkRuns where
  run := by
    rw [← Bool.not_eq_false, ← h.stopped]
    exact phase
  idle := by
    by_contra testing
    exact phase (h.test testing)

theorem Part.linkWorks.quiet (h : p.linkWorks) (phase : p.scan.phase ≠ .cycling) : p.scan.radio = .quiet := by
  by_contra busy
  exact phase (h.radio.1 busy)

/-! ### Attempts (R72 to R75) -/

/-- The part waits or sends with the link running: the law is about its scan alone. -/
theorem Part.linkRuns.linkLaw (h : p.linkRuns) (phase : p.scan.phase ≠ .stopped)
    (retry : p.scan.retryTimer = true ↔ ∃ c, p.scan.phase = .retryWait c)
    (channel : p.scan.lbtTimer.isSome = true ↔ p.scan.phase = .channelWait)
    (guard : p.scan.guardTimer.isSome = true ↔ p.scan.phase = .holding)
    (radio : p.scan.radio ≠ .quiet ↔ p.scan.phase = .cycling) : p.linkLaw := by
  refine ⟨iff_of_false phase ?_, retry, channel, guard, radio, fun testing => absurd h.idle testing, fun _ => h.run⟩
  rw [h.run]
  exact Bool.noConfusion

theorem Part.startCycle_linkLaw (h : p.linkRuns) : p.startCycle.linkLaw := by
  have runs : p.startCycle.linkRuns := ⟨h.run, h.idle⟩
  exact runs.linkLaw nofun ⟨nofun, nofun⟩ ⟨nofun, nofun⟩ ⟨nofun, nofun⟩ ⟨fun _ => rfl, fun _ => nofun⟩

theorem Part.retryLater_linkLaw (h : p.linkRuns) (quiet : p.scan.radio = .quiet) (c : RetryCause) :
    (p.retryLater c).linkLaw := by
  have runs : (p.retryLater c).linkRuns := ⟨h.run, h.idle⟩
  exact runs.linkLaw nofun ⟨fun _ => ⟨c, rfl⟩, fun _ => rfl⟩ ⟨nofun, nofun⟩ ⟨nofun, nofun⟩
    ⟨fun busy => absurd quiet busy, nofun⟩

theorem Part.listenFirst_linkLaw (h : p.linkRuns) (quiet : p.scan.radio = .quiet) : p.listenFirst.linkLaw := by
  unfold Part.listenFirst
  split
  · have runs : Part.linkRuns (p.onScan fun s =>
        { s with phase := .channelWait, lbtTimer := some p.settings.active.link.lbtLimit, retryTimer := false,
                 guardTimer := none }) := ⟨h.run, h.idle⟩
    exact runs.linkLaw nofun ⟨nofun, nofun⟩ ⟨fun _ => rfl, fun _ => rfl⟩ ⟨nofun, nofun⟩
      ⟨fun busy => absurd quiet busy, nofun⟩
  · exact Part.startCycle_linkLaw h

theorem Part.readyCheck_linkLaw (h : p.linkRuns) (quiet : p.scan.radio = .quiet) : p.readyCheck.linkLaw := by
  unfold Part.readyCheck
  dsimp only
  split
  · exact Part.listenFirst_linkLaw ⟨h.run, h.idle⟩ quiet
  · have failed : ((p.onScan fun s => { s with episode := true }).retryLater .notReady).linkLaw :=
      Part.retryLater_linkLaw ⟨h.run, h.idle⟩ quiet .notReady
    split
    · exact failed
    · exact failed.frame rfl

/-- With the link running and nothing on the air, an attempt ends in a phase with its timer, or in the cycle. -/
theorem Part.attempt_linkLaw (h : p.linkRuns) (quiet : p.scan.radio = .quiet) : p.attempt.linkLaw := by
  have linked : p.takeLink.linkRuns := ⟨h.run, h.idle⟩
  have calm := p.takeLink.takeEnables_calm
  have silent : p.takeLink.takeEnables.scan.radio = .quiet := by rw [calm.scan]; exact quiet
  unfold Part.attempt
  dsimp only
  split
  · exact Part.readyCheck_linkLaw (linked.calm calm) silent
  · exact Part.retryLater_linkLaw (linked.calm calm) silent .noUnits

/-- Once an event's work is done, the attempt that follows an ended hold restores the law. -/
theorem Part.linkWorks.settle (h : p.linkWorks) : p.settle.linkLaw := by
  by_cases stands : p.holdStands
  · rw [p.settle_of_holdStands stands]
    exact p.linkLaw_iff.2 ⟨h, stands⟩
  · simp only [Part.holdStands, Classical.not_imp, not_not] at stands
    rw [Part.settle, if_pos stands]
    obtain ⟨holding, -⟩ := stands
    exact Part.attempt_linkLaw (h.runs (by rw [holding]; exact nofun)) (h.quiet (by rw [holding]; exact nofun))

/-! ### Link tests and the stop (R91, R162, R168) -/

theorem Part.linkLaw.judgeTests (h : p.linkLaw) (phase : p.scan.phase = .stopped) : p.judgeTests.linkLaw :=
  h.tested p.judgeTests_scan (by rw [p.judgeTests_settings]) p.judgeTests_engine fun _ => phase

/-- The link stops with every slot FREE. -/
theorem Part.stopLink_linkLaw (quiet : p.scan.radio = .quiet) (closed : p.anyOpen = false) : p.stopLink.linkLaw := by
  unfold Part.stopLink
  generalize hb : Part.onScan _ _ = base
  have phase : base.scan.phase = .stopped := by rw [← hb]; rfl
  have stopped : base.linkLaw := by
    rw [← hb]
    exact ⟨⟨fun _ => rfl, fun _ => rfl⟩, ⟨nofun, nofun⟩, ⟨nofun, nofun⟩, ⟨nofun, nofun⟩,
      ⟨fun busy => absurd quiet busy, nofun⟩, fun _ => rfl,
      fun opened => absurd (closed.symm.trans opened) Bool.false_ne_true⟩
  have calm := base.takeEnables_calm
  have taken : base.takeEnables.linkLaw := calm.linkLaw stopped (by rw [phase]; exact nofun)
  exact taken.judgeTests (calm.phase.trans phase)

/-! ### Within a cycle (R76 to R90) -/

theorem Part.linkLaw.inCycle (h : p.linkLaw) (busy : p.scan.radio ≠ .quiet) : p.inCycle := by
  have works := h.works
  obtain ⟨-, retry, channel, guard, radio, -⟩ := h
  have phase : p.scan.phase = .cycling := radio.1 busy
  refine ⟨works.runs (by rw [phase]; exact nofun), ?_⟩
  rw [phase] at retry channel guard
  have noRetry : p.scan.retryTimer = false := Bool.eq_false_iff.2 fun on => nomatch retry.1 on
  have noChannel : p.scan.lbtTimer = none := Option.not_isSome_iff_eq_none.1 fun on => nomatch channel.1 on
  have noGuard : p.scan.guardTimer = none := Option.not_isSome_iff_eq_none.1 fun on => nomatch guard.1 on
  rw [Scan.waits, phase, noRetry, noChannel, noGuard]

theorem Part.inCycle.linkLaw (h : p.inCycle) (busy : p.scan.radio ≠ .quiet) : p.linkLaw := by
  have waits := h.waits
  simp only [Scan.waits, Prod.mk.injEq] at waits
  obtain ⟨phase, retry, channel, guard⟩ := waits
  refine h.runs.linkLaw ?_ ?_ ?_ ?_ (iff_of_true busy phase)
  · rw [phase]; exact nofun
  · rw [phase, retry]; exact ⟨nofun, nofun⟩
  · rw [phase, channel]; exact ⟨nofun, nofun⟩
  · rw [phase, guard]; exact ⟨nofun, nofun⟩

theorem Part.inCycle.frame (h : p.inCycle) (waits : q.scan.waits = p.scan.waits)
    (run : q.settings.active.scanRun = p.settings.active.scanRun) (test : q.check.test = p.check.test) : q.inCycle :=
  ⟨⟨run.trans h.runs.run, test.trans h.runs.idle⟩, waits.trans h.waits⟩

theorem Part.inCycle.calm (h : p.inCycle) (c : Calm p q) : q.inCycle := by
  have waits := h.waits
  simp only [Scan.waits, Prod.mk.injEq] at waits
  obtain ⟨phase, retry, channel, guard⟩ := waits
  have same : q.scan.guardTimer = none := c.guard.elim (fun e => e.trans guard) And.right
  refine ⟨h.runs.calm c, ?_⟩
  rw [c.scan, same]
  simp only [Scan.waits, phase, retry, channel]

theorem Part.inCycle.holdOrStart (h : p.inCycle) (quiet : p.scan.radio = .quiet) (latched : Bool) :
    (p.holdOrStart latched).linkLaw := by
  have waits := h.waits
  simp only [Scan.waits, Prod.mk.injEq] at waits
  obtain ⟨-, retry, channel, -⟩ := waits
  unfold Part.holdOrStart
  split
  · have runs : p.enterHold.linkRuns := ⟨h.runs.run, h.runs.idle⟩
    refine runs.linkLaw nofun ?_ ?_ ⟨fun _ => rfl, fun _ => rfl⟩ ⟨fun busy => absurd quiet busy, nofun⟩
    · exact iff_of_false (Bool.eq_false_iff.1 retry) nofun
    · exact iff_of_false (Option.not_isSome_iff_eq_none.2 channel) nofun
  · exact Part.attempt_linkLaw h.runs quiet

theorem Part.cycleMarked_waits (p : Part) : p.cycleMarked.scan.waits = p.scan.waits := by
  rw [Part.cycleMarked_eq]
  cases p.scan.changeSeen <;> rfl

theorem Part.cycleMarked_radio (p : Part) : p.cycleMarked.scan.radio = .quiet := by
  rw [Part.cycleMarked_eq]
  cases p.scan.changeSeen <;> rfl

theorem Part.cycleMarked_check (p : Part) : p.cycleMarked.check = p.check := p.markChange_check

theorem Part.inCycle.endCycle (h : p.inCycle) : p.endCycle.linkLaw := by
  have marked : p.cycleMarked.inCycle :=
    h.frame p.cycleMarked_waits (by rw [p.cycleMarked_settings]) (by rw [p.cycleMarked_check])
  have quiet := p.cycleMarked_radio
  rw [p.endCycle_eq]
  repeat' split
  · have refused : p.cycleMarked.refuseStop.inCycle := marked.frame rfl rfl rfl
    exact refused.holdOrStart quiet _
  · next closed =>
    have opened : p.cycleMarked.anyOpen = p.anyOpen := Part.anyOpen_congr (by rw [p.cycleMarked_engine])
    exact Part.stopLink_linkLaw quiet (opened.trans (Bool.eq_false_iff.2 closed))
  · exact marked.holdOrStart quiet _

theorem Part.inCycle.beginSlot (h : p.inCycle) (u : UnitIx) (k : SlotKind) : (p.beginSlot u k).linkLaw := by
  have begun : (p.beginSlot u k).inCycle := h.frame rfl rfl rfl
  exact begun.linkLaw nofun

theorem Part.inCycle.giveSlot (h : p.inCycle) (u : UnitIx) (k : SlotKind) : (p.giveSlot u k).linkLaw := by
  unfold Part.giveSlot
  split
  · have sent : (p.sendHead (some (u, k))).inCycle := h.frame rfl rfl rfl
    exact sent.linkLaw nofun
  · exact h.beginSlot u k

theorem Part.inCycle.boundary (h : p.inCycle) : p.boundary.linkLaw := by
  unfold Part.boundary
  repeat' split
  · refine Part.inCycle.giveSlot ?_ _ .urgent
    exact h.frame rfl rfl rfl
  · refine Part.inCycle.giveSlot ?_ _ .regular
    exact h.frame rfl rfl rfl
  · exact h.endCycle

end

end Sys2Proof.Machine
end

section
namespace Sys2Proof.Machine

/-! ### The outcome of a slot (R52) -/

section
variable {p : Part}

theorem Part.inCycle.onUnit (h : p.inCycle) (u : UnitIx) (f : UnitEntry → UnitEntry) : (p.onUnit u f).inCycle :=
  h.frame rfl rfl rfl

theorem Part.inCycle.report (h : p.inCycle) (x : Source) : (p.report x).inCycle := h.frame rfl rfl rfl

theorem Part.inCycle.heardUnit (h : p.inCycle) (u : UnitIx) (r : Reply) : (p.heardUnit u r).inCycle := by
  have changed {q : Part} (hq : q.inCycle) : (q.onScan fun s => { s with changeSeen := true }).inCycle :=
    hq.frame rfl rfl rfl
  have heard := h.onUnit u UnitEntry.heardFrom
  unfold Part.heardUnit
  dsimp only
  by_cases silent : p.units[u].link = .silent
  · simp only [if_pos silent]
    split
    · exact (changed ((heard.report _).onUnit u _)).report _
    · exact (heard.report _).onUnit u _
  · simp only [if_neg silent]
    split
    · exact (changed (heard.onUnit u _)).report _
    · exact heard.onUnit u _

theorem Part.inCycle.missedUnit (h : p.inCycle) (u : UnitIx) : (p.missedUnit u).inCycle := by
  have counted {q : Part} (hq : q.inCycle) : q.countSilent.inCycle := hq.frame rfl rfl rfl
  unfold Part.missedUnit
  dsimp only
  split
  · exact (counted (h.onUnit u _)).onUnit u _
  · exact (h.onUnit u _).onUnit u _

theorem Part.inCycle.slotSteps (h : p.inCycle) (u : UnitIx) (f : Inquiry → Inquiry) : (p.slotSteps u f).inCycle :=
  (((h.onUnit u _).onUnit u _).onUnit u _).onUnit u _

theorem Part.inCycle.goodReply (h : p.inCycle) (u : UnitIx) (r : Reply) : (p.goodReply u r).inCycle := by
  rw [p.goodReply_eq_steps]
  exact (((h.heardUnit u r).onUnit u _).onUnit u _).slotSteps u _

theorem Part.inCycle.miss (h : p.inCycle) (u : UnitIx) : (p.miss u).inCycle := by
  rw [p.miss_eq_steps]
  exact (h.missedUnit u).slotSteps u _

theorem Part.inCycle.slotGood (h : p.inCycle) (u : UnitIx) (r : Reply) : (p.slotGood u r).linkLaw := by
  have quiet : (p.onScan fun s => { s with radio := .quiet }).inCycle := h.frame rfl rfl rfl
  have good := quiet.goodReply u r
  have judgedA := good.calm (Part.judgeEvent_calm _ u .a r.eventA)
  have judgedB := judgedA.calm (Part.judgeEvent_calm _ u .b r.eventB)
  exact (judgedB.calm (Part.roundIf_calm _ (p.units[u].link = .silent))).boundary

theorem Part.inCycle.slotMissed (h : p.inCycle) (u : UnitIx) : (p.slotMissed u).linkLaw := by
  have quiet : (p.onScan fun s => { s with radio := .quiet }).inCycle := h.frame rfl rfl rfl
  exact (quiet.miss u).boundary

/-! ### The events of the scan (R72 to R90) -/

theorem Part.linkLaw.retryExpires (h : p.linkLaw) : p.retryExpires.linkLaw := by
  unfold Part.retryExpires
  split
  · next on =>
    obtain ⟨c, phase⟩ := h.works.retry.1 on
    exact Part.attempt_linkLaw (h.works.runs (by rw [phase]; exact nofun)) (h.works.quiet (by rw [phase]; exact nofun))
  · exact h

/-- The listen-before-talk timer runs with the link running. -/
theorem Part.linkLaw.channel_runs (h : p.linkLaw) (on : p.scan.lbtTimer.isSome = true) : p.linkRuns :=
  h.works.runs (by rw [h.works.channel.1 on]; exact nofun)

theorem Part.linkLaw.carrierFalls (h : p.linkLaw) : p.carrierFalls.linkLaw := by
  unfold Part.carrierFalls
  split
  · next on =>
    obtain ⟨run, idle⟩ := h.channel_runs on
    exact Part.startCycle_linkLaw ⟨run, idle⟩
  · exact h

theorem Part.linkLaw.lbtExpires (h : p.linkLaw) : p.lbtExpires.linkLaw := by
  unfold Part.lbtExpires
  split
  · next on =>
    obtain ⟨run, idle⟩ := h.channel_runs on
    exact Part.startCycle_linkLaw ⟨run, idle⟩
  · exact h

theorem Part.linkLaw.guardExpires (h : p.linkLaw) : p.guardExpires.linkLaw := by
  unfold Part.guardExpires
  split
  · next on =>
    have phase := h.works.guard on
    obtain ⟨run, idle⟩ := h.works.runs (by rw [phase]; exact nofun)
    have quiet : p.scan.radio = .quiet := h.works.quiet (by rw [phase]; exact nofun)
    exact Part.attempt_linkLaw ⟨run, idle⟩ quiet
  · exact h

theorem Part.linkLaw.headSent (h : p.linkLaw) : p.headSent.linkLaw := by
  unfold Part.headSent
  split
  · next control chosen radio =>
    have cycle := h.inCycle (by rw [radio]; exact nofun)
    have sent : (p.onScan fun s => { s with lastHead := control, radio := .quiet }).inCycle := cycle.frame rfl rfl rfl
    dsimp only
    split
    · exact sent.beginSlot _ _
    · exact sent.boundary
  · exact h

/-- The radio goes on to something else within the cycle. -/
theorem Part.inCycle.radio (h : p.inCycle) (x : Radio) (busy : x ≠ .quiet) :
    (p.onScan fun s => { s with radio := x }).linkLaw :=
  Part.inCycle.linkLaw (h.frame rfl rfl rfl) busy

theorem Part.linkLaw.packetSent (h : p.linkLaw) : p.packetSent.linkLaw := by
  unfold Part.packetSent
  split
  · next radio => exact (h.inCycle (by rw [radio]; exact nofun)).radio _ nofun
  · exact h

theorem Part.linkLaw.armReply (h : p.linkLaw) : p.armReply.linkLaw := by
  unfold Part.armReply
  split
  · next radio => exact (h.inCycle (by rw [radio]; exact nofun)).radio _ nofun
  · exact h

theorem Part.linkLaw.replyStarts (h : p.linkLaw) : p.replyStarts.linkLaw := by
  unfold Part.replyStarts
  split
  · next radio => exact (h.inCycle (by rw [radio]; exact nofun)).radio _ nofun
  · exact h

theorem Part.linkLaw.replyIn (h : p.linkLaw) (r : Reply) : (p.replyIn r).linkLaw := by
  unfold Part.replyIn
  split
  · next radio _ =>
    have cycle := h.inCycle (by rw [radio]; exact nofun)
    repeat' split
    · exact cycle.radio _ nofun
    · exact cycle.slotGood _ r
    · exact cycle.radio _ nofun
  · exact h

theorem Part.linkLaw.windowCloses (h : p.linkLaw) : p.windowCloses.linkLaw := by
  unfold Part.windowCloses
  split
  · next radio _ =>
    have cycle := h.inCycle (by rw [radio]; exact nofun)
    have corrupt : p.countCorrupt.inCycle := cycle.frame rfl rfl rfl
    split
    · exact cycle.slotMissed _
    · exact cycle.slotMissed _
    · exact corrupt.slotMissed _
    · exact corrupt.slotMissed _
  · exact h

theorem Part.linkLaw.stageExpires (h : p.linkLaw) (s : Slot) : (p.stageExpires s).linkLaw := by
  unfold Part.stageExpires
  split
  · next due =>
    simp only [Incident.timerDue, Bool.and_eq_true, decide_eq_true_eq] at due
    exact ((p.expireStage_calm s due.1).linkWorks h.works).settle
  · exact h

theorem Part.linkLaw.timerSecond (h : p.linkLaw) (s : Slot) : (p.timerSecond s).linkLaw :=
  (Part.linkLaw_iff _).2 ⟨(p.onIncident_calm s _ (.tick _)).linkWorks h.works, h.holdStands⟩

/-! ### The events of the link tests (R162 to R168) -/

/-- An event of a test that runs: none begins where none ran. -/
theorem Part.linkLaw.testEvent (h : p.linkLaw) {q : Part} (scan : q.scan = p.scan)
    (run : q.settings.active.scanRun = p.settings.active.scanRun) (engine : q.engine = p.engine)
    (idle : p.check.test = .idle → q.check = p.check) : q.linkLaw :=
  h.tested scan run engine fun testing => h.works.test fun e => testing (by rw [idle e]; exact e)

theorem Part.endListen_run (p : Part) : p.endListen.settings.active.scanRun = p.settings.active.scanRun := by
  unfold Part.endListen
  dsimp only
  split
  · simp
  · split <;> simp

theorem Part.patternWord_run (p : Part) (w : Word) :
    (p.patternWord w).settings.active.scanRun = p.settings.active.scanRun := by
  unfold Part.patternWord
  split
  · dsimp only
    split
    · rw [Part.endListen_run]; simp
    · simp
  · rfl

theorem Part.prbsGroup_run (p : Part) (w : Word) :
    (p.prbsGroup w).settings.active.scanRun = p.settings.active.scanRun := by
  unfold Part.prbsGroup
  split
  · dsimp only
    split
    · split <;> simp
    · rw [Part.endListen_run]
      split <;> simp
  · rfl

theorem Part.closeListen_run (p : Part) : p.closeListen.settings.active.scanRun = p.settings.active.scanRun := by
  unfold Part.closeListen
  split
  · rw [Part.endListen_run]; simp
  · rfl

theorem Part.linkLaw.testRetryExpires (h : p.linkLaw) : p.testRetryExpires.linkLaw :=
  h.testEvent p.testRetryExpires_scan (by simp) (by simp) fun e => by simp only [Part.testRetryExpires, e]

theorem Part.linkLaw.testCarrierFalls (h : p.linkLaw) : p.testCarrierFalls.linkLaw :=
  h.testEvent p.testCarrierFalls_scan (by simp) (by simp) fun e => by simp only [Part.testCarrierFalls, e]

theorem Part.linkLaw.testLbtExpires (h : p.linkLaw) : p.testLbtExpires.linkLaw :=
  h.testEvent p.testLbtExpires_scan (by simp) (by simp) fun e => by simp only [Part.testLbtExpires, e]

theorem Part.linkLaw.burstSent (h : p.linkLaw) : p.burstSent.linkLaw :=
  h.testEvent p.burstSent_scan (by simp) (by simp) fun e => by simp only [Part.burstSent, e]

theorem Part.linkLaw.armListen (h : p.linkLaw) : p.armListen.linkLaw :=
  h.testEvent p.armListen_scan (by simp) (by simp) fun e => by simp only [Part.armListen, e]

theorem Part.linkLaw.leadInHeard (h : p.linkLaw) : p.leadInHeard.linkLaw :=
  h.testEvent p.leadInHeard_scan (by simp) (by simp) fun e => by simp only [Part.leadInHeard, e]

theorem Part.linkLaw.patternWord (h : p.linkLaw) (w : Word) : (p.patternWord w).linkLaw :=
  h.testEvent (p.patternWord_scan w) (p.patternWord_run w) (by simp) fun e => by simp only [Part.patternWord, e]

theorem Part.linkLaw.prbsGroup (h : p.linkLaw) (w : Word) : (p.prbsGroup w).linkLaw :=
  h.testEvent (p.prbsGroup_scan w) (p.prbsGroup_run w) (by simp) fun e => by simp only [Part.prbsGroup, e]

theorem Part.linkLaw.closeListen (h : p.linkLaw) : p.closeListen.linkLaw :=
  h.testEvent p.closeListen_scan p.closeListen_run (by simp) fun e => by simp only [Part.closeListen, e]

end

/-! ### Words taken (chapters 1 to 4) -/

section
variable {p : Part}

theorem Settings.put_scanRun (s : Settings) (x : Setting) (w : Word) : (s.put x w).scanRun = s.scanRun := by
  cases x <;> rfl

theorem Part.linkLaw.judgeSetting (h : p.linkLaw) (off : Nat) (w : Word) : (p.judgeSetting off w).linkLaw := by
  unfold Part.judgeSetting
  repeat' split
  · exact h
  · next x _ _ =>
    have run : (p.takeSetting x w).settings.active.scanRun = p.settings.active.scanRun := by
      rw [Part.takeSetting, Part.onSettings_settings]
      dsimp only
      split
      · rfl
      · exact Settings.put_scanRun _ x w
    exact h.testEvent (p.takeSetting_scan x w) run (p.takeSetting_engine x w) fun _ => p.takeSetting_check x w
  · exact h.frame rfl

theorem Part.linkLaw.stopped_phase (h : p.linkLaw) (stopped : p.stopped = true) : p.scan.phase = .stopped := by
  rw [Part.stopped, Bool.not_eq_true'] at stopped
  exact h.works.stopped.2 stopped

/-- Scan run on starts a link that is stopped: a test is cut off, and an attempt is made (R23). -/
theorem Part.linkLaw.scanRunOn (h : p.linkLaw) : p.scanRunOn.linkLaw := by
  unfold Part.scanRunOn
  dsimp only
  split
  · next stopped =>
    have phase : p.scan.phase = .stopped := h.stopped_phase stopped
    have quiet : p.scan.radio = .quiet := h.works.quiet (by rw [phase]; exact nofun)
    exact Part.attempt_linkLaw ⟨rfl, rfl⟩ quiet
  · exact h.frame rfl

/-- Scan run off is refused, staged, or stops the link with every slot FREE (R24). -/
theorem Part.linkLaw.scanRunOff (h : p.linkLaw) : p.scanRunOff.linkLaw := by
  have staged : (p.stageScanRun false).linkLaw := h.frame rfl
  unfold Part.scanRunOff
  dsimp only
  split
  · exact h.frame rfl
  · next closed =>
    have closed : (p.stageScanRun false).anyOpen = false := Bool.eq_false_iff.2 closed
    split
    · exact staged
    · exact staged
    · exact staged
    · next phase => exact Part.stopLink_linkLaw (h.works.quiet (by rw [phase]; exact nofun)) closed
    · next phase => exact Part.stopLink_linkLaw (h.works.quiet (by rw [phase]; exact nofun)) closed

/-- The test enables are judged only while the link is stopped. -/
theorem Part.linkLaw.takeTests (h : p.linkLaw) : p.takeTests.linkLaw := by
  rw [p.takeTests_eq]
  split
  · next stopped => exact Part.linkLaw.judgeTests (h.frame rfl) (h.works.stopped.2 stopped.1)
  · exact h

theorem Part.linkLaw.testEnables (h : p.linkLaw) (t : TestEnables) : (p.testEnables t).linkLaw := by
  unfold Part.testEnables
  repeat' split
  · exact Part.linkLaw.takeTests (h.frame rfl)
  · exact h.frame rfl
  · exact Part.linkLaw.takeTests (h.frame rfl)

theorem Part.linkLaw.takeSetupWord (h : p.linkLaw) (off : Nat) (w : Word) : (p.takeSetupWord off w).linkLaw := by
  unfold Part.takeSetupWord
  repeat' split
  · exact h.scanRunOn
  · exact h.scanRunOff
  · exact h.testEnables _
  · exact h.judgeSetting off w

theorem Part.linkLaw.takeRosterWord (h : p.linkLaw) (v : VolunteerIx) (k : Nat) (w : Word) :
    (p.takeRosterWord v k w).linkLaw := by
  unfold Part.takeRosterWord
  split
  · exact ((p.commit_calm v w).linkWorks h.works).settle
  · exact h.frame rfl

/-- A unit's enable is taken at once only while the link is stopped, where no hold stands (R49). -/
theorem Part.linkLaw.takeUnitWord0 (h : p.linkLaw) (u : UnitIx) (w : Word) : (p.takeUnitWord0 u w).linkLaw := by
  have written : (p.onUnit u fun e => { e with watch := watchOf w, stagedEnable := enableOf w }).linkLaw := h.frame rfl
  unfold Part.takeUnitWord0
  dsimp only
  split
  · next stopped =>
    have phase : p.scan.phase = .stopped := h.stopped_phase stopped
    refine (Part.takeEnable_calm _ u).linkLaw written ?_
    rw [Part.onUnit_scan, phase]
    exact nofun
  · exact written

theorem Part.linkLaw.takeInquiryWord (h : p.linkLaw) (u : UnitIx) (w : Word) : (p.takeInquiryWord u w).linkLaw := by
  unfold Part.takeInquiryWord
  dsimp only
  repeat' split
  · exact h
  · exact h.frame rfl
  · exact h.frame rfl

theorem Part.linkLaw.handOver (h : p.linkLaw) (off : Nat) (w : Word) : (p.handOver off w).linkLaw := by
  unfold Part.handOver Part.takeUnitWord
  repeat' split
  · exact h.takeSetupWord off w
  · exact h.takeRosterWord _ _ w
  · exact h.takeUnitWord0 _ w
  · exact h.takeInquiryWord _ w
  · exact h

/-- A request's work can end a hold; the attempt follows once the result is recorded (R13, R90). -/
theorem Part.linkLaw.takeRequest (h : p.linkLaw) (code : Word) : (p.takeRequest code).linkLaw := by
  have kept : (p.codeKept code).linkLaw := h.frame rfl
  have acted : (p.ownerActed code).linkWorks := (p.ownerActed_calm code).linkWorks kept.works
  rw [p.takeRequest_eq]
  exact Part.linkWorks.settle (acted.frame rfl)

theorem Part.linkLaw.clearCounter (h : p.linkLaw) (j : Nat) : (p.clearCounter j).linkLaw := by
  unfold Part.clearCounter
  split
  all_goals exact h.frame rfl

theorem Part.linkLaw.clearNotes (h : p.linkLaw) (l : NoteLine) (w : Word) : (p.clearNotes l w).linkLaw := by
  have cleared : (p.onNotify fun n => n.onLine l fun u => u.clear (lowByte w)).linkWorks := h.works.frame rfl
  unfold Part.clearNotes
  dsimp only
  split
  · exact ((Part.endHold_calm _).linkWorks cleared).settle
  · exact cleared.settle

theorem Part.linkLaw.takeBoardWord (h : p.linkLaw) (k : Nat) (w : Word) : (p.takeBoardWord k w).linkLaw := by
  unfold Part.takeBoardWord
  repeat' split
  · exact h.frame rfl
  · exact h.takeRequest w
  · exact h.frame rfl
  · exact h.frame rfl
  · exact h.clearCounter _
  · exact h.clearNotes _ w
  · exact h.frame rfl
  · exact h.clearNotes _ w
  · exact h.frame rfl
  · exact h

end

/-! ### The memory path (chapter 1) -/

/-- A property that the memory path leaves alone and the owners of its words keep: every word and byte command, and
every cycle, then keeps it. -/
structure PathKeeps (I : Part → Prop) : Prop where
  pins : ∀ p f, I p → I (p.onPins f)
  bus : ∀ p f, I p → I (p.onBus f)
  mem : ∀ p f, I p → I (p.onMem f)
  error : ∀ p kind off, I p → I (p.recordError kind off)
  handOver : ∀ p off w, I p → I (p.handOver off w)
  board : ∀ p k w, I p → I (p.takeBoardWord k w)

section
variable {I : Part → Prop} {p : Part}

theorem PathKeeps.viewMemory (keeps : PathKeeps I) (h : I p) (a : Nat) (write : Bool) (x : Word) :
    I (p.viewMemory a write x) := by
  unfold Part.viewMemory
  exact keeps.bus _ _ h

theorem PathKeeps.viewBoard (keeps : PathKeeps I) (h : I p) (waited : Bool) (x : Word) : I (p.viewBoard waited x) := by
  unfold Part.viewBoard
  exact keeps.bus _ _ h

theorem PathKeeps.ramByteWrite (keeps : PathKeeps I) (h : I p) (a : Nat) (x : Byte) : I (p.ramByteWrite a x) :=
  keeps.viewMemory (keeps.mem p (fun m => Memory.write m a x) h) a true 0

theorem PathKeeps.ramWordWrite (keeps : PathKeeps I) (h : I p) (a : Nat) (w : Word) : I (p.ramWordWrite a w) := by
  unfold Part.ramWordWrite
  exact keeps.viewMemory (keeps.mem _ _ h) _ _ _

theorem PathKeeps.beginBoardWrite (keeps : PathKeeps I) (h : I p) : I p.beginBoardWrite := by
  unfold Part.beginBoardWrite
  exact keeps.viewBoard (keeps.bus _ _ h) _ _

theorem PathKeeps.plainCycle (keeps : PathKeeps I) (h : I p) (c : BusCycle) : I (p.plainCycle c) := by
  unfold Part.plainCycle
  dsimp only
  repeat' split
  · exact keeps.ramByteWrite h _ _
  · exact keeps.viewMemory h _ _ _
  · exact keeps.ramWordWrite h _ _
  · exact keeps.viewMemory h _ _ _

theorem PathKeeps.takeWord (keeps : PathKeeps I) (h : I p) (off : Nat) (w : Word) : I (p.takeWord off w) := by
  unfold Part.takeWord
  split
  · exact keeps.board _ _ _ h
  · exact keeps.handOver _ _ _ h

theorem PathKeeps.byteToMemory (keeps : PathKeeps I) (h : I p) (off : Nat) (high : Bool) (x : Byte) :
    I (p.byteToMemory off high x) := by
  unfold Part.byteToMemory
  split
  · exact keeps.beginBoardWrite h
  · exact keeps.ramByteWrite h _ _

theorem PathKeeps.completePair (keeps : PathKeeps I) (h : I p) (off : Nat) (x : Byte) : I (p.completePair off x) := by
  unfold Part.completePair
  repeat' split
  · exact keeps.takeWord (keeps.bus _ _ h) _ _
  · exact keeps.error _ _ _ h
  · exact keeps.error _ _ _ h

theorem PathKeeps.writeByteAt (keeps : PathKeeps I) (h : I p) (off : Nat) (high : Bool) (x : Byte) :
    I (p.writeByteAt off high x) := by
  unfold Part.writeByteAt Part.highByteIn Part.lowByteIn
  dsimp only
  repeat' split
  · exact keeps.byteToMemory h _ _ _
  · exact keeps.completePair (keeps.byteToMemory h _ _ _) _ _
  · exact keeps.byteToMemory h _ _ _
  · exact keeps.bus _ _ (keeps.byteToMemory h _ _ _)
  · exact keeps.ramByteWrite h _ _

theorem PathKeeps.writeWord (keeps : PathKeeps I) (h : I p) (off : Nat) (w : Word) : I (p.writeWord off w) := by
  unfold Part.writeWord Part.wordIn
  repeat' split
  · exact keeps.writeByteAt (keeps.writeByteAt h _ _ _) _ _ _
  · exact keeps.board _ _ _ (keeps.beginBoardWrite h)
  · exact keeps.handOver _ _ _ (keeps.ramWordWrite h _ _)
  · exact keeps.ramWordWrite h _ _

theorem PathKeeps.answerRead (keeps : PathKeeps I) (h : I p) (k : Nat) : I (p.answerRead k).1 := by
  rw [p.answerRead_eq]
  exact keeps.bus p (fun b => { b with capture := p.captureAfter k }) h

theorem PathKeeps.setReadHigh (keeps : PathKeeps I) (h : I p) (x : Option (Nat × Byte)) : I (p.setReadHigh x) := by
  unfold Part.setReadHigh
  exact keeps.bus _ _ h

theorem PathKeeps.readByteAt (keeps : PathKeeps I) (h : I p) (k : Nat) (high : Bool) : I (p.readByteAt k high) := by
  unfold Part.readByteAt Part.highByteOut Part.lowByteOut
  dsimp only
  repeat' split
  · exact keeps.viewBoard (keeps.setReadHigh h _) _ _
  · exact keeps.viewBoard (keeps.answerRead h k) _ _
  · exact keeps.viewBoard (keeps.answerRead h k) _ _
  · exact keeps.viewBoard (keeps.setReadHigh (keeps.answerRead h k) _) _ _
  · exact keeps.viewMemory h _ _ _

theorem PathKeeps.readWord (keeps : PathKeeps I) (h : I p) (k : Nat) : I (p.readWord k) := by
  unfold Part.readWord Part.wordOut
  repeat' split
  · exact keeps.readByteAt (keeps.readByteAt h _ _) _ _
  · exact keeps.viewBoard (keeps.answerRead h k) _ _
  · exact keeps.viewMemory h _ _ _

theorem PathKeeps.byteWrite (keeps : PathKeeps I) (h : I p) (off : Nat) (high : Bool) (x : Byte) :
    I (p.byteWrite off high x) := by
  unfold Part.byteWrite
  split
  · exact keeps.writeByteAt h off high x
  · exact h

theorem PathKeeps.byteRead (keeps : PathKeeps I) (h : I p) (k : Nat) (high : Bool) : I (p.byteRead k high) := by
  unfold Part.byteRead
  split
  · exact keeps.readByteAt h k high
  · exact h

theorem PathKeeps.plainCommand (keeps : PathKeeps I) (h : I p) (c : BusCycle) : I (p.plainCommand c) := by
  unfold Part.plainCommand
  split
  · exact keeps.plainCycle h c
  · exact h

/-- Every word command keeps what the memory path keeps. -/
theorem PathKeeps.wordCommand (keeps : PathKeeps I) {c : Instr} {s t : State} {off : Nat} {w : Word} (h : I s.part)
    (command : wordOfCommand c = some (off, w)) (hexec : exec c s = .next t) : I t.part := by
  obtain ⟨ln, he⟩ := exec_wordOfCommand c off w command s
  rw [he] at hexec
  cases hexec
  exact keeps.writeWord (keeps.pins _ _ h) off w

end

/-! ### Every command -/

theorem linkLaw_pathKeeps : PathKeeps Part.linkLaw where
  pins _ _ h := h.frame rfl
  bus _ _ h := h.frame rfl
  mem _ _ h := h.frame rfl
  error _ _ _ h := h.frame rfl
  handOver _ off w h := h.handOver off w
  board _ k w h := h.takeBoardWord k w

theorem Part.resetBlocks_linkLaw (p : Part) (b : Bool) (pins : Straps) : (p.resetBlocks b pins).linkLaw :=
  reset_linkLaw.frame rfl

theorem Part.linkLaw.fallReset {p : Part} (h : p.linkLaw) (pins : Straps) (c : Option BusCycle) :
    (p.fallReset pins c).linkLaw := by
  unfold Part.fallReset
  split
  · exact Part.resetBlocks_linkLaw _ _ _
  · exact h

theorem Part.linkLaw.riseReset {p : Part} (h : p.linkLaw) (pins : Straps) (c : Option BusCycle) :
    (p.riseReset pins c).linkLaw := by
  unfold Part.riseReset
  split
  · exact h
  · exact Part.resetBlocks_linkLaw _ _ _

/-- What a command answers keeps the link law. -/
theorem exec_linkLaw (c : Instr) (s t : State) (hexec : exec c s = .next t) (h : s.part.linkLaw) :
    t.part.linkLaw := by
  have run (f : Part → Part) (hf : (f s.part).linkLaw) (e : s.run f = .next t) : t.part.linkLaw := by
    cases e
    exact hf
  have lined (ln : Lines) : (s.part.withLines ln).linkLaw := h.frame rfl
  have keeps := linkLaw_pathKeeps
  cases c with
  | plainCycle c => exact run _ (keeps.plainCommand h c) hexec
  | boardRead k => exact run _ (keeps.readWord h _) hexec
  | boardCapture b => exact run _ (keeps.readWord h _) hexec
  | lowByteRead k => exact run _ (keeps.byteRead h _ _) hexec
  | highByteRead k => exact run _ (keeps.byteRead h _ _) hexec
  | lowByteWrite off x => exact run _ (keeps.byteWrite h _ _ _) hexec
  | highByteWrite off x ln => exact run _ (keeps.byteWrite (lined ln) _ _ _) hexec
  | deviceReset pins c => exact run _ (h.fallReset pins c) hexec
  | resetRelease pins c => exact run _ (h.riseReset pins c) hexec
  | retryTimerExpiry ln => exact run _ (lined ln).retryExpires hexec
  | cdFall => exact run _ h.carrierFalls hexec
  | lbtTimerExpiry => exact run _ h.lbtExpires hexec
  | frameHeadEnd ln => exact run _ (lined ln).headSent hexec
  | packetEnd => exact run _ h.packetSent hexec
  | turnaroundEnd => exact run _ h.armReply hexec
  | replyStart => exact run _ h.replyStarts hexec
  | replyComplete r ln => exact run _ ((lined ln).replyIn r) hexec
  | replyWindowClose ln => exact run _ (lined ln).windowCloses hexec
  | holdGuardExpiry ln => exact run _ (lined ln).guardExpires hexec
  | stageTimerExpiry slot ln => exact run _ ((lined ln).stageExpires slot) hexec
  | repulseTimerExpiry l => exact run _ (h.frame rfl) hexec
  | testRetryExpiry ln => exact run _ (lined ln).testRetryExpires hexec
  | testCdFall => exact run _ h.testCarrierFalls hexec
  | testLbtExpiry => exact run _ h.testLbtExpires hexec
  | burstEnd => exact run _ h.burstSent hexec
  | testTurnaroundEnd => exact run _ h.armListen hexec
  | testLeadIn => exact run _ h.leadInHeard hexec
  | patternWordReceived w ln => exact run _ ((lined ln).patternWord w) hexec
  | prbsGroupReceived w ln => exact run _ ((lined ln).prbsGroup w) hexec
  | testListenClose ln => exact run _ (lined ln).closeListen hexec
  | timerSecond slot => exact run _ (h.timerSecond slot) hexec
  | notifyClear l w ln => cases l <;> exact keeps.wordCommand h rfl hexec
  | notifyEnableWrite l w => cases l <;> exact keeps.wordCommand h rfl hexec
  | _ => exact keeps.wordCommand h rfl hexec

/-- Settles O59: each command keeps the law; where its work ends a hold, the attempt that follows restores it. -/
theorem stepKeepsLink : Obligations.StepKeepsLink := by
  unfold Obligations.StepKeepsLink
  intro s t hstep h
  unfold step at hstep
  split at hstep
  · next c rest _ => exact exec_linkLaw c { s with pending := rest } t hstep h
  · cases hstep
    exact h

end Sys2Proof.Machine
end

section
namespace Sys2Proof.Machine

/-! ## The urgent list after a change of one unit (R60, R81) -/

theorem SeatState.unconfirmed_iff (s : SeatState) :
    s.unconfirmed = true ↔ ∃ m, s.current = some { message := m, confirmed := false } := by
  unfold SeatState.unconfirmed
  split
  · next c hc =>
    rw [hc, Bool.not_eq_true']
    constructor
    · intro waits
      exact ⟨c.message, by rw [← waits]⟩
    · rintro ⟨m, e⟩
      rw [Option.some.inj e]
  · next hc =>
    rw [hc]
    exact ⟨nofun, nofun⟩

/-- A unit that joins the list goes to its end. -/
theorem judgeUrgent_join {l : List UnitIx} {u : UnitIx} (absent : u ∉ l) : judgeUrgent l u true = l ++ [u] := by
  rw [judgeUrgent, if_pos rfl, if_neg absent]

/-- A unit that leaves the list leaves the others in their order. -/
theorem judgeUrgent_leave {before after : List UnitIx} {u : UnitIx} (once : (before ++ u :: after).Nodup) :
    judgeUrgent (before ++ u :: after) u false = before ++ after := by
  have others : u ∉ before ++ after := (List.nodup_middle.1 once).notMem
  have kept : (before ++ after).filter (fun x => x ≠ u) = before ++ after :=
    List.filter_eq_self.2 fun x hx => decide_eq_true fun e => others (e ▸ hx)
  rw [judgeUrgent, if_neg Bool.false_ne_true, List.filter_append, List.filter_cons_of_neg (by simp),
    ← List.filter_append, kept]

/-- Settles O27, by the unit's place on the list before and after. -/
theorem urgentListFollowsUnit : Obligations.UrgentListFollowsUnit := by
  unfold Obligations.UrgentListFollowsUnit
  intro p u f law e waits wanted
  have urgent : e.urgent = true ↔ wanted := by
    rw [e.urgent_iff, SeatState.unconfirmed_iff, SeatState.unconfirmed_iff]
  have unwanted (h : ¬wanted) : e.urgent = false := Bool.eq_false_iff.2 fun he => h (urgent.1 he)
  obtain ⟨once, listed⟩ := p.urgentLaw_iff.1 law
  have changed := law.onUnit u f
  obtain ⟨-, after⟩ := (Part.urgentLaw_iff _).1 changed
  have entry : (p.onUnit u f).units[u] = e := by rw [Part.onUnit_units, update_self]
  refine ⟨changed, ?_, fun want on => ?_, fun want off => ?_, fun want off => ?_, fun want before behind split => ?_⟩
  · rw [after u, entry]
    exact urgent
  · exact law.onUnit_entry u f ((urgent.2 want).trans ((listed u).1 on).symm)
  · rw [p.onUnit_eq, urgent.2 want, judgeUrgent_join off]
  · exact law.onUnit_entry u f ((unwanted want).trans (Bool.eq_false_iff.2 fun h => off ((listed u).2 h)).symm)
  · rw [split] at once
    rw [p.onUnit_eq, unwanted want, split, judgeUrgent_leave once]

end Sys2Proof.Machine
end

section
namespace Sys2Proof.Machine

/-! ## The attempt to start a cycle (R72 to R75) -/

theorem Part.anyEnabled_iff (p : Part) : p.anyEnabled = true ↔ ∃ u : UnitIx, p.units[u].link ≠ .disabled := by
  simp only [Part.anyEnabled, List.any_eq_true, List.mem_finRange, true_and]
  exact exists_congr fun u => p.units[u].enabled_iff

theorem Part.readyNow_iff (p : Part) :
    p.readyNow = true ↔ p.pins.rdy = true ∨ p.settings.active.link.readyMask = true := by
  rw [Part.readyNow, Bool.or_eq_true]

theorem Part.channelBusy_iff (p : Part) :
    p.channelBusy = true ↔ p.pins.cd = true ∧ p.settings.active.link.carrierMask = false := by
  rw [Part.channelBusy, Bool.and_eq_true, Bool.not_eq_true']

/-- A failed ready check: an episode that stood already is neither counted nor latched again (R73). -/
theorem Part.readyCheck_failed {p : Part} (h : ¬p.readyNow = true) :
    p.readyCheck =
      let failed := p.onScan fun s =>
        { s with phase := .retryWait .notReady, retryTimer := true, lbtTimer := none, guardTimer := none,
                 episode := true }
      if p.scan.episode then failed else failed.countNotReady := by
  rw [Part.readyCheck, if_neg h]
  rfl

/-- A passed ready check ends the episode and goes on to the carrier (R73, R74). -/
theorem Part.readyCheck_passed {p : Part} (h : p.readyNow = true) :
    p.readyCheck =
      if p.channelBusy then
        p.onScan fun s =>
          { s with phase := .channelWait, lbtTimer := some p.settings.active.link.lbtLimit, retryTimer := false,
                   guardTimer := none, episode := false }
      else (p.onScan fun s => { s with episode := false }).startCycle := by
  rw [Part.readyCheck, if_pos h]
  rfl

/-- Settles O34, by the enabled units, the ready check and the carrier. -/
theorem attemptMade : Obligations.AttemptMade := by
  unfold Obligations.AttemptMade
  intro p q l someEnabled ready busy scan
  have made : p.attempt = if q.anyEnabled then q.readyCheck else q.retryLater .noUnits := rfl
  clear_value q
  have enabled : q.anyEnabled = true ↔ someEnabled := q.anyEnabled_iff
  have passes : q.readyNow = true ↔ ready := q.readyNow_iff
  have carrier : q.channelBusy = true ↔ busy := q.channelBusy_iff
  refine ⟨fun off => ?_, fun on fails => ?_, fun on right taken => ?_, fun on right clear => ?_⟩
  · rw [made, if_neg fun h => off (enabled.1 h)]
    rfl
  · rw [made, if_pos (enabled.2 on), Part.readyCheck_failed fun h => fails (passes.1 h)]
    rfl
  · rw [made, if_pos (enabled.2 on), Part.readyCheck_passed (passes.2 right), if_pos (carrier.2 taken)]
    rfl
  · rw [made, if_pos (enabled.2 on), Part.readyCheck_passed (passes.2 right), if_neg fun h => clear (carrier.1 h)]
    rfl

end Sys2Proof.Machine
end

section
namespace Sys2Proof.Machine

/-! ## The control word (R77) -/

/-- A byte put together bit by bit. -/
theorem foldl_bits_getLsbD (f : Nat → Bool) (n i : Nat) (hi : i < 8) :
    ((List.range n).foldl (fun (b : Byte) k => b ||| ((BitVec.ofBool (f k)).setWidth 8 <<< k)) 0).getLsbD i =
      (decide (i < n) && f i) := by
  induction n with
  | zero => simp
  | succ n ih =>
    rw [List.range_succ, List.foldl_append, List.foldl_cons, List.foldl_nil, BitVec.getLsbD_or, ih,
      BitVec.getLsbD_shiftLeft, BitVec.getLsbD_setWidth, BitVec.getLsbD_ofBool]
    obtain below | rfl | above := Nat.lt_trichotomy i n
    · simp [below, Nat.lt_succ_of_lt below]
    · simp [hi]
    · have beyond : ¬i < n + 1 := by omega
      have other : ¬i - n = 0 := by omega
      simp [above.not_gt, beyond, other]

theorem Part.controlByte_getLsbD (p : Part) (i : Nat) (hi : i < 8) :
    p.controlByte.getLsbD i = p.signal (p.settings.active.link.select i) := by
  rw [Part.controlByte, foldl_bits_getLsbD _ 8 i hi, decide_eq_true hi, Bool.true_and]

theorem Part.controlWord_low (p : Part) (i : Nat) (hi : i < 8) :
    p.controlWord.getLsbD i = p.controlByte.getLsbD i := by
  rw [Part.controlWord, wordOf, BitVec.getLsbD_append, if_pos hi]

theorem Part.controlWord_high (p : Part) (i : Nat) (hi : i < 8) :
    p.controlWord.getLsbD (i + 8) = !p.controlByte.getLsbD i := by
  rw [Part.controlWord, wordOf, BitVec.getLsbD_append, if_neg (by omega), Nat.add_sub_cancel, BitVec.getLsbD_not,
    decide_eq_true hi, Bool.true_and]

/-- A control-bit select is a nibble of its word (R18). -/
theorem LinkSettings.select_eq (l : LinkSettings) (i : Nat) :
    l.select i =
      if i < 4 then l.selectsLow.toNat / 16 ^ i % 16 else l.selectsHigh.toNat / 16 ^ (i - 4) % 16 := by
  have nibble (n : Nat) : 2 ^ (4 * n) = 16 ^ n := pow_mul 2 4 n
  have width : 2 ^ 4 = 16 := rfl
  simp only [LinkSettings.select, bitsOf, nibble, width]

/-- A signal over the open incidents (R77). -/
theorem Part.someOpen_iff (p : Part) (f : Incident → Bool) :
    ((List.finRange 4).any fun k => p.isOpen k && f (p.incident k)) = true ↔
      ∃ k : Slot, p.engine.incidents[k].state ≠ .free ∧ f p.engine.incidents[k] = true := by
  simp only [List.any_eq_true, List.mem_finRange, true_and, Bool.and_eq_true]
  exact exists_congr fun k => and_congr_left fun _ => decide_eq_true_iff

/-- Settles O36, by the sixteen selects. -/
theorem controlWordSignals : Obligations.ControlWordSignals := by
  unfold Obligations.ControlWordSignals
  intro p i hi l select some' signal
  have named : p.signal select = true ↔ signal := by
    have condition (f : Incident → Prop) [DecidablePred f] :
        ((List.finRange 4).any fun k => p.isOpen k && decide (f (p.incident k))) = true ↔ some' f := by
      rw [p.someOpen_iff fun x => decide (f x)]
      simp only [decide_eq_true_eq]
      rfl
    subst signal
    generalize select = n
    match n with
    | 0 => exact ⟨nofun, False.elim⟩
    | 1 => exact iff_of_true rfl trivial
    | 2 =>
      have odd : p.scan.cycle.getLsbD 0 = decide (p.scan.cycle.toNat % 2 = 1) := Nat.testBit_zero _
      exact (Bool.eq_iff_iff.1 odd).trans decide_eq_true_iff
    | 3 => exact condition fun _ => True
    | 4 => exact condition fun x => x.state = .calling
    | 5 => exact condition fun x => x.priority = 1
    | 6 => exact condition fun x => x.stage = 4
    | 7 => exact p.someOpen_iff Incident.testScale
    | k + 8 => exact condition fun x => x.station = k + 8 - 8
  have bit : p.controlByte.getLsbD i = p.signal select := by
    rw [p.controlByte_getLsbD i hi, LinkSettings.select_eq]
  rw [p.controlWord_low i hi, p.controlWord_high i hi, bit, Bool.not_eq_true', ← Bool.not_eq_true, named]
  exact ⟨Iff.rfl, Iff.rfl⟩

end Sys2Proof.Machine
end

section
namespace Sys2Proof.Machine

/-! ## Heads (R75, R76, R78) -/

/-- A head under the active settings: lead-in, sync words, control word and check (R76). -/
theorem Part.sendHead_eq (p : Part) (next : Option (UnitIx × SlotKind)) :
    p.sendHead next =
      let sync := p.settings.active.link.syncWords.toList.take p.settings.active.link.syncCount
      { p with scan := { p.scan with
          radio := .head (0x7E81 :: (sync ++ [p.controlWord, checkWord (sync ++ [p.controlWord])])) p.controlWord
            next } } := by
  simp only [Part.sendHead, frame, List.append_assoc, List.cons_append, List.nil_append]
  rfl

/-- A bit triggers a head where it has risen or fallen under its mask (R78). -/
theorem triggerBits_getLsbD (l : LinkSettings) (now last : Byte) (i : Nat) (hi : i < 8) :
    (triggerBits l now last).getLsbD i = true ↔
      (now.getLsbD i = true ∧ last.getLsbD i = false ∧ l.rising.getLsbD i = true) ∨
        (now.getLsbD i = false ∧ last.getLsbD i = true ∧ l.falling.getLsbD i = true) := by
  simp [triggerBits, hi, and_assoc]

theorem byte_ne_zero_iff (b : Byte) : b ≠ 0 ↔ ∃ i < 8, b.getLsbD i = true := by
  constructor
  · intro h
    by_contra unset
    refine h (BitVec.eq_of_getLsbD_eq fun i hi => ?_)
    have off : b.getLsbD i = false := Bool.eq_false_iff.2 fun on => unset ⟨i, hi, on⟩
    exact off.trans BitVec.getLsbD_zero.symm
  · rintro ⟨i, -, on⟩ rfl
    exact Bool.false_ne_true (BitVec.getLsbD_zero.symm.trans on)

theorem lowByte_getLsbD (w : Word) (i : Nat) (hi : i < 8) : (lowByte w).getLsbD i = w.getLsbD i := by
  rw [lowByte, BitVec.getLsbD_setWidth, decide_eq_true hi, Bool.true_and]

/-- A head is triggered by a bit of the control word against the last head word (R78). -/
theorem Part.triggered_iff (p : Part) :
    triggerBits p.settings.active.link p.controlByte (lowByte p.scan.lastHead) ≠ 0 ↔
      ∃ i < 8,
        (p.controlWord.getLsbD i = true ∧ p.scan.lastHead.getLsbD i = false ∧
          p.settings.active.link.rising.getLsbD i = true) ∨
        (p.controlWord.getLsbD i = false ∧ p.scan.lastHead.getLsbD i = true ∧
          p.settings.active.link.falling.getLsbD i = true) := by
  rw [byte_ne_zero_iff]
  refine exists_congr fun i => and_congr_right fun hi => ?_
  rw [triggerBits_getLsbD _ _ _ i hi, lowByte_getLsbD _ i hi, p.controlWord_low i hi]

/-- Settles O35: the cycle's head, and the head before a slot by its trigger. -/
theorem headsSent : Obligations.HeadsSent := by
  unfold Obligations.HeadsSent
  refine ⟨fun p => ?_, fun p u k => ?_⟩
  · intro begun sync
    exact begun.sendHead_eq none
  · intro l now last triggers sync
    have triggered : triggerBits l p.controlByte (lowByte p.scan.lastHead) ≠ 0 ↔ triggers := p.triggered_iff
    refine ⟨fun rises => ?_, fun stays => ?_⟩
    · rw [Part.giveSlot, if_pos (triggered.2 rises)]
      exact p.sendHead_eq (some (u, k))
    · rw [Part.giveSlot, if_neg fun h => stays (triggered.1 h)]

end Sys2Proof.Machine
end

section
namespace Sys2Proof.Machine

/-! ## The ends of the waits (R72 to R75, R90) -/

theorem Part.retryExpires_running {p : Part} (h : p.scan.retryTimer = true) : p.retryExpires = p.attempt := by
  rw [Part.retryExpires, if_pos h]

theorem Part.carrierFalls_waiting {p : Part} (h : p.scan.lbtTimer ≠ none) :
    p.carrierFalls = Part.startCycle { p with pins := { p.pins with cd := false } } := by
  rw [Part.carrierFalls, if_pos (Option.isSome_iff_ne_none.2 h)]
  rfl

theorem Part.lbtExpires_waiting {p : Part} (h : p.scan.lbtTimer ≠ none) : p.lbtExpires = p.countForced.startCycle := by
  rw [Part.lbtExpires, if_pos (Option.isSome_iff_ne_none.2 h)]

theorem Part.guardExpires_holding {p : Part} (h : p.scan.guardTimer ≠ none) :
    p.guardExpires = (p.countOverrun.onScan fun s => { s with guardTimer := none }).attempt := by
  rw [Part.guardExpires, if_pos (Option.isSome_iff_ne_none.2 h)]

/-- Settles O37: each wait by its timer, then the end of a hold and the attempt that follows it. -/
theorem waitsEnd : Obligations.WaitsEnd := by
  unfold Obligations.WaitsEnd
  refine ⟨fun s ln => ⟨fun retry => ?_, fun channel => ?_, fun guard => ?_⟩, fun p => ⟨p.endHold_eq, ?_, ?_⟩⟩
  · exact s.next_part (Part.retryExpires_running (p := s.part.withLines ln) retry)
  · exact ⟨s.next_part (Part.carrierFalls_waiting channel), s.next_part (Part.lbtExpires_waiting channel)⟩
  · exact s.next_part (Part.guardExpires_holding (p := s.part.withLines ln) guard)
  · intro holding ended
    rw [Part.settle, if_pos ⟨holding, ended⟩]
  · exact p.settle_of_holdStands

end Sys2Proof.Machine
end

section
namespace Sys2Proof.Machine

/-! ## The choice at a slot boundary (R75, R79) -/

/-- A unit the regular pass can still take: enabled, at or after the pass position, with no slot this cycle (R79). -/
def Part.passTakes (p : Part) (u : UnitIx) : Prop :=
  p.scan.passPos ≤ u ∧ p.units[u].link ≠ .disabled ∧ p.scan.hadSlot[u] = false

theorem Scan.urgentChoice_some {s : Scan} {before after : List UnitIx} {u : UnitIx}
    (split : s.urgent = before ++ u :: after) (passed : ∀ x ∈ before, s.hadUrgent[x] = true)
    (due : ¬s.hadUrgent[u] = true) : s.urgentChoice = some u := by
  rw [Scan.urgentChoice, List.find?_eq_some_iff_append]
  refine ⟨?_, before, after, split, fun x hx => ?_⟩
  · rw [Bool.not_eq_true', Bool.eq_false_iff]
    exact due
  · rw [passed x hx]
    rfl

theorem Scan.urgentChoice_none {s : Scan} (passed : ∀ x ∈ s.urgent, s.hadUrgent[x] = true) : s.urgentChoice = none := by
  rw [Scan.urgentChoice, List.find?_eq_none]
  intro x hx
  rw [passed x hx]
  decide

theorem Part.passTakes_iff (p : Part) (u : UnitIx) :
    (decide (p.scan.passPos ≤ u) && p.units[u].enabled && !p.scan.hadSlot[u]) = true ↔ p.passTakes u := by
  rw [Bool.and_eq_true, Bool.and_eq_true, decide_eq_true_eq, p.units[u].enabled_iff, Bool.not_eq_true', and_assoc]
  rfl

theorem Part.regularChoice_none {p : Part} (spent : ∀ u, ¬p.passTakes u) : p.regularChoice = none := by
  rw [Part.regularChoice, List.find?_eq_none]
  intro u _
  rw [p.passTakes_iff]
  exact spent u

theorem Part.regularChoice_some {p : Part} {u : UnitIx} (takes : p.passTakes u) (first : ∀ x, p.passTakes x → u ≤ x) :
    p.regularChoice = some u := by
  rw [Part.regularChoice, ← Fin.find?_eq_find?_finRange, Fin.find?_eq_some_iff, p.passTakes_iff]
  refine ⟨takes, fun x below => ?_⟩
  rw [Bool.eq_false_iff, Ne, p.passTakes_iff]
  exact fun h => absurd (first x h) (not_le.2 below)

/-- Settles O40: an urgent entry still due, else the pass, else the cycle's end. -/
theorem slotChosen : Obligations.SlotChosen := by
  unfold Obligations.SlotChosen
  intro p had member
  refine ⟨fun before u after split passed due => ?_, fun passed => ⟨fun u takes first => ?_, fun spent => ?_⟩⟩
  · rw [Part.boundary, Scan.urgentChoice_some split passed due]
    rfl
  · rw [Part.boundary, Scan.urgentChoice_none passed, Part.regularChoice_some takes first]
    rfl
  · rw [Part.boundary, Scan.urgentChoice_none passed, Part.regularChoice_none spent]

end Sys2Proof.Machine
end

/-! # The incidents: the proofs of the statements about OPEN, AMEND, CLOSE, ENGINE-CLEAR and the stages -/

section
namespace Sys2Proof.Machine

/-! ## A request of an incident (R13, R96) -/

/-- Every request but an OPEN: the owner's work on the kept code, the result recorded, then what an ended hold brings
about (log 9). -/
theorem Part.writeBoard_request {p : Part} {code : Word} {a : Answer} (hr : p.pins.resetN = true) (other : code ≠ 1)
    (h : (p.requestKept code).request code = a) :
    p.writeBoard 0x007 code = (a.part.resultKept code a.code a.assigned).settle := by
  have taken := p.withheld.takeRequest_eq code
  rw [Part.ownerActed, if_neg other] at taken
  subst h
  exact (p.writeWord_action code hr).trans taken

/-- An OPEN ends a hold before its result is recorded, whatever the result (R90). -/
theorem Part.writeBoard_open {p : Part} {a : Answer} (hr : p.pins.resetN = true) (h : (p.requestKept 1).doOpen = a) :
    p.writeBoard 0x007 1 = (a.part.endHold.resultKept 1 a.code a.assigned).settle := by
  subst h
  exact p.writeWord_action 1 hr

theorem slotOf_eq_some_iff (n : Nat) (k : Slot) : slotOf n = some k ↔ n = k.val := by
  unfold slotOf
  rw [Option.dite_none_right_eq_some]
  constructor
  · rintro ⟨_, e⟩
    exact congrArg Fin.val (Option.some.inj e)
  · rintro rfl
    exact ⟨k.isLt, rfl⟩

/-- The incident a request names is the open one of the staging slot and generation (R96). -/
theorem Part.stagedIncident_eq_some_iff (p : Part) (k : Slot) : p.stagedIncident = some k ↔ p.stagingNames k := by
  have named (x : Slot) : p.names x p.bus.staging.generation = true ↔
      p.engine.incidents[x].state ≠ .free ∧ p.engine.incidents[x].generation = p.bus.staging.generation := by
    rw [Part.names, Bool.and_eq_true, beq_iff_eq]
    exact and_congr_left fun _ => decide_eq_true_iff
  rw [Part.stagingNames, ← named, ← slotOf_eq_some_iff, Part.stagedIncident]
  cases slotOf p.bus.staging.slot.toNat with
  | none => exact ⟨nofun, nofun⟩
  | some x =>
    rw [Option.ite_none_right_eq_some, and_comm]
    exact and_congr_right fun e => by rw [Option.some.inj e]

theorem Part.stagedIncident_eq_none {p : Part} (h : ∀ k, ¬p.stagingNames k) : p.stagedIncident = none :=
  Option.eq_none_iff_forall_ne_some.2 fun k named => h k ((p.stagedIncident_eq_some_iff k).1 named)

theorem Part.onIncident_eq (p : Part) (k : Slot) (f : Incident → Incident) :
    p.onIncident k f = p.setIncident k (f (p.incident k)) := rfl

end Sys2Proof.Machine
end

section
namespace Sys2Proof.Machine

/-! ## The stages of an incident (R101) -/

theorem stageDuration_eq (d : Vector Nat 4) {k : Nat} (h : 1 ≤ k) : stageDuration d k = d[k - 1]?.getD 0 := by
  obtain ⟨n, rfl⟩ := Nat.exists_eq_add_of_le' h
  rfl

/-- The stages tried are 1 to 4, in ascending order. -/
theorem usedStageFrom_eq (d : Vector Nat 4) (stage : Nat) :
    usedStageFrom d stage = (List.range' 1 4).find? fun k => decide (stage ≤ k) && decide (stageDuration d k ≠ 0) := rfl

/-- The first used stage at or after a stage. -/
theorem usedStageFrom_eq_some {d : Vector Nat 4} {stage k : Nat} (bounds : 1 ≤ k ∧ k ≤ 4) (after : stage ≤ k)
    (used : stageDuration d k ≠ 0) (first : ∀ j, 1 ≤ j → stage ≤ j → j < k → stageDuration d j = 0) :
    usedStageFrom d stage = some k := by
  rw [usedStageFrom_eq, List.find?_range'_eq_some]
  refine ⟨?_, List.mem_range'_1.2 (by omega), fun j low below => ?_⟩
  · rw [decide_eq_true after, decide_eq_true used, Bool.and_self]
  · rw [Bool.not_eq_true', Bool.and_eq_false_imp]
    intro from'
    exact decide_eq_false (not_not_intro (first j low (of_decide_eq_true from') below))

theorem usedStageFrom_eq_none_iff (d : Vector Nat 4) (stage : Nat) :
    usedStageFrom d stage = none ↔ ∀ k, 1 ≤ k → k ≤ 4 → stage ≤ k → stageDuration d k = 0 := by
  rw [usedStageFrom_eq, List.find?_range'_eq_none]
  refine forall_congr' fun k => forall_congr' fun _ => ?_
  rw [Nat.lt_succ_iff, Bool.not_eq_true', Bool.and_eq_false_imp]
  simp only [decide_eq_true_eq, decide_eq_false_iff_not, not_not]

end Sys2Proof.Machine
end

section
namespace Sys2Proof.Machine

/-! ## A stage's end (R103, R104, R116) -/

/-- A used stage later than the incident's own (R101). -/
def Incident.laterStage (i : Incident) (j : Nat) : Prop := i.stage < j ∧ j ≤ 4 ∧ i.durations[j - 1]?.getD 0 ≠ 0

theorem Incident.laterStage_iff (i : Incident) (j : Nat) :
    i.laterStage j ↔ i.stage + 1 ≤ j ∧ j ≤ 4 ∧ stageDuration i.durations j ≠ 0 :=
  and_congr_right fun later => by rw [stageDuration_eq _ (Nat.one_le_of_lt later)]

theorem Incident.usedStage_next {i : Incident} {j : Nat} (later : i.laterStage j)
    (first : ∀ x, i.laterStage x → j ≤ x) : usedStageFrom i.durations (i.stage + 1) = some j := by
  obtain ⟨after, last, used⟩ := (i.laterStage_iff j).1 later
  refine usedStageFrom_eq_some ⟨by omega, last⟩ after used fun x _ from' below => ?_
  by_contra usedEarlier
  exact absurd (first x ((i.laterStage_iff x).2 ⟨from', by omega, usedEarlier⟩)) (Nat.not_le.2 below)

theorem Incident.usedStage_none {i : Incident} (h : ∀ j, ¬i.laterStage j) :
    usedStageFrom i.durations (i.stage + 1) = none := by
  refine (usedStageFrom_eq_none_iff _ _).2 fun j _ last after => ?_
  by_contra used
  exact h j ((i.laterStage_iff j).2 ⟨after, last, used⟩)

/-- The expiry goes on to the next used stage, with its full timer and an offer round. -/
theorem Part.expireStage_next {p : Part} {k : Slot} {i : Incident} {j : Nat} (own : p.incident k = i)
    (later : i.laterStage j) (first : ∀ x, i.laterStage x → j ≤ x) :
    p.expireStage k =
      ((p.setIncident k { i with stage := j, timer := some (i.durations[j - 1]?.getD 0) }).report
        .stageAdvance).round := by
  have found := Incident.usedStage_next later first
  have advanced : i.advance = { i with stage := j, timer := some (stageDuration i.durations j) } := by
    rw [Incident.advance, found]
    rfl
  rw [stageDuration_eq _ (Nat.one_le_of_lt later.1)] at advanced
  subst own
  simp only [Part.expireStage, found]
  rw [Part.onIncident_eq, advanced]

/-- With no later used stage, the expiry leaves the incident SHORT. -/
theorem Part.expireStage_last {p : Part} {k : Slot} {i : Incident} (own : p.incident k = i)
    (h : ∀ j, ¬i.laterStage j) :
    p.expireStage k = (p.setIncident k { i with state := .short, timer := none }).report .crewShort := by
  have spent := Incident.usedStage_none h
  have advanced : i.advance = { i with state := .short, timer := none } := by
    rw [Incident.advance, spent]
  subst own
  simp only [Part.expireStage, spent]
  rw [Part.onIncident_eq, advanced]

theorem Part.stageExpires_due {p : Part} {k : Slot} (calling : (p.incident k).state = .calling)
    (due : (p.incident k).timer = some 0) : p.stageExpires k = (p.expireStage k).settle := by
  rw [Part.stageExpires, if_pos]
  rw [Incident.timerDue, decide_eq_true calling, decide_eq_true due, Bool.and_self]

theorem Part.timerSecond_running {p : Part} {k : Slot} {n : Nat} (calling : (p.incident k).state = .calling)
    (running : (p.incident k).timer = some (n + 1)) :
    p.timerSecond k = p.setIncident k { p.incident k with timer := some n } := by
  have tick : (p.incident k).tick = { p.incident k with timer := some n } := by
    simp only [Incident.tick, calling, running]
  rw [Part.timerSecond, Part.onIncident_eq, tick]

/-! ### ADVANCE (R116) -/

theorem Part.doAdvance_stale {p : Part} (h : ∀ k, ¬p.stagingNames k) : p.doAdvance = p.refuse .refusedStale := by
  rw [Part.doAdvance, Part.stagedIncident_eq_none h]

theorem Part.doAdvance_refused {p : Part} {k : Slot} (h : p.stagingNames k) (other : (p.incident k).state ≠ .calling) :
    p.doAdvance = p.refuse .refusedState := by
  simp only [Part.doAdvance, (p.stagedIncident_eq_some_iff k).2 h, if_neg other]

theorem Part.doAdvance_calling {p : Part} {k : Slot} (h : p.stagingNames k)
    (calling : (p.incident k).state = .calling) :
    p.doAdvance = { part := p.expireStage k, code := .done, assigned := none } := by
  simp only [Part.doAdvance, (p.stagedIncident_eq_some_iff k).2 h, if_pos calling]
  rfl

theorem exec_advance {s : State} {ln : Lines} {q : Part} {c : ResultCode} (hr : s.part.pins.resetN = true)
    (h : ((s.part.withLines ln).requestKept 4).doAdvance = { part := q, code := c, assigned := none }) :
    exec (.advance ln) s = .next { s with part := (q.resultKept 4 c none).settle } :=
  s.next_part (Part.writeBoard_request (p := s.part.withLines ln) (code := 4) hr (by decide) h)

/-- Settles O45: an expiry by the later used stages, ADVANCE by the incident named, then the timer second. -/
theorem stagesAdvance : Obligations.StagesAdvance := by
  unfold Obligations.StagesAdvance
  intro s ln k i later expires p answers
  have expired (q : Part) (own : q.incident k = i) : expires q (q.expireStage k) :=
    ⟨fun _ hj first => Part.expireStage_next own hj first, Part.expireStage_last own⟩
  refine ⟨fun hr => ⟨fun stale => ?_, fun named other => ?_, fun named calling => ?_⟩, fun calling due => ?_,
    fun n calling running => s.next_part (Part.timerSecond_running calling running)⟩
  · exact exec_advance hr (Part.doAdvance_stale stale)
  · exact exec_advance hr (Part.doAdvance_refused named other)
  · exact ⟨_, expired p rfl, exec_advance hr (Part.doAdvance_calling named calling)⟩
  · exact ⟨_, expired (s.part.withLines ln) rfl, s.next_part (Part.stageExpires_due calling due)⟩

end Sys2Proof.Machine
end

section
namespace Sys2Proof.Machine

/-! ## AMEND (R111, R112) -/

theorem sum_eq_sumRoles (q : Vector Nat 6) : q.sum = sumRoles fun r => q[r] := by
  have listed : q.toList = (List.finRange 6).map fun r => q[r] := by
    rw [← List.ofFn_eq_map, ← Vector.toList_ofFn]
    exact congrArg Vector.toList Vector.ofFn_getElem.symm
  rw [← Vector.sum_toList, listed, sumRoles]

theorem Staging.quotaNumbers_get (g : Staging) (r : RoleIx) : g.quotaNumbers[r] = (g.quotas[r]).toNat :=
  Vector.getElem_map _ r.isLt

theorem Staging.demand_eq (g : Staging) : g.demand = g.quotaNumbers.sum := by
  rw [sum_eq_sumRoles, Staging.demand]
  exact sumRoles_congr fun r => (g.quotaNumbers_get r).symm

theorem Incident.amendFloor_staged (i : Incident) (g : Staging) :
    i.amendFloor g = i.extras + ((List.finRange 6).map fun r => max i.tallies[r] g.quotaNumbers[r]).sum := by
  rw [Incident.amendFloor]
  exact congrArg (i.extras + ·) (sumRoles_congr fun r => by rw [g.quotaNumbers_get])

/-- The conditions of R111 after the first, for the incident of slot `k`. -/
theorem Part.amendInvalid_iff (p : Part) (k : Slot) :
    p.amendInvalid k = true ↔
      let g := p.bus.staging
      let i := p.engine.incidents[k]
      g.priority.toNat = 0 ∨ 3 < g.priority.toNat ∨ g.quotaNumbers.sum = 0 ∨ 31 < g.cap.toNat ∨
        g.cap.toNat < i.extras + ((List.finRange 6).map fun r => max i.tallies[r] g.quotaNumbers[r]).sum := by
  rw [Part.amendInvalid, Staging.demand_eq, Incident.amendFloor_staged]
  simp only [Bool.or_eq_true, decide_eq_true_eq, or_assoc]
  rfl

/-! ### The incident judged (R106, R107) -/

theorem Part.setIncident_incident (p : Part) (k : Slot) (i : Incident) : (p.setIncident k i).incident k = i :=
  Vector.getElem_set_self k.isLt

theorem Part.report_incident (p : Part) (x : Source) (k : Slot) : (p.report x).incident k = p.incident k := rfl

theorem Part.setIncident_setIncident (p : Part) (k : Slot) (i j : Incident) :
    (p.setIncident k i).setIncident k j = p.setIncident k j := by
  simp only [Part.setIncident, Vector.set_set]

/-- An incident that is replaced and then judged (R106, R107). -/
def Part.judged (p : Part) (k : Slot) (j : Incident) : Part := ((p.setIncident k j).judgeComplete k).judgeReturn k

theorem Incident.completes_iff (j : Incident) :
    j.completes = true ↔ (j.state = .calling ∨ j.state = .short) ∧ j.crewed = true := by
  rw [Incident.completes, Bool.and_eq_true, j.served_iff]

theorem Incident.reopens_iff (j : Incident) : j.reopens = true ↔ j.state = .complete ∧ ¬j.crewed = true := by
  rw [Incident.reopens, Bool.and_eq_true, decide_eq_true_iff, Bool.not_eq_true', Bool.not_eq_true]

theorem Part.judgeReturn_keeps {q : Part} {k : Slot} (h : ¬(q.incident k).reopens = true) : q.judgeReturn k = q := by
  rw [Part.judgeReturn, if_neg h]

theorem Part.judgeComplete_keeps {q : Part} {k : Slot} (h : ¬(q.incident k).completes = true) :
    q.judgeComplete k = q := by
  rw [Part.judgeComplete, if_neg h]

/-- A full crew completes an open incident, with its latch. -/
theorem Part.judged_completes (p : Part) (k : Slot) {j : Incident} (opened : j.state ≠ .free)
    (waits : j.state ≠ .complete) (crewed : j.crewed = true) :
    p.judged k j = (p.setIncident k { j with state := .complete, timer := none }).report .crewComplete := by
  have served : j.state = .calling ∨ j.state = .short := by
    cases state : j.state with
    | free => exact absurd state opened
    | calling => exact .inl rfl
    | complete => exact absurd state waits
    | short => exact .inr rfl
  have completes : j.completes = true := j.completes_iff.2 ⟨served, crewed⟩
  have after : j.judgeComplete = { j with state := .complete, timer := none } := by
    rw [Incident.judgeComplete, if_pos completes]
  have complete : (p.setIncident k j).judgeComplete k =
      (p.setIncident k { j with state := .complete, timer := none }).report .crewComplete := by
    rw [Part.judgeComplete, p.setIncident_incident, if_pos completes, Part.onIncident_eq, p.setIncident_incident,
      p.setIncident_setIncident, after]
  rw [Part.judged, complete, Part.judgeReturn_keeps]
  rw [Part.report_incident, p.setIncident_incident, Incident.reopens_iff]
  exact fun h => h.2 crewed

/-- A COMPLETE incident without its crew is called again, with its latch. -/
theorem Part.judged_reopens (p : Part) (k : Slot) {j : Incident} (complete : j.state = .complete)
    (lacking : ¬j.crewed = true) :
    p.judged k j =
      (p.setIncident k { j with state := .calling, timer := some (stageDuration j.durations j.stage) }).report
        .callingAgain := by
  have reopens : j.reopens = true := j.reopens_iff.2 ⟨complete, lacking⟩
  have after : j.judgeReturn = { j with state := .calling, timer := some (stageDuration j.durations j.stage) } := by
    rw [Incident.judgeReturn, if_pos reopens]
    rfl
  have kept : (p.setIncident k j).judgeComplete k = p.setIncident k j := by
    refine Part.judgeComplete_keeps ?_
    rw [p.setIncident_incident, Incident.completes_iff]
    exact fun h => lacking h.2
  rw [Part.judged, kept, Part.judgeReturn, p.setIncident_incident, if_pos reopens, Part.onIncident_eq,
    p.setIncident_incident, p.setIncident_setIncident, after]

/-- An incident COMPLETE exactly where its crew is stays as it is. -/
theorem Part.judged_stays (p : Part) (k : Slot) {j : Incident} (agrees : j.crewed = true ↔ j.state = .complete) :
    p.judged k j = p.setIncident k j := by
  have kept : (p.setIncident k j).judgeComplete k = p.setIncident k j := by
    refine Part.judgeComplete_keeps ?_
    rw [p.setIncident_incident, Incident.completes_iff]
    rintro ⟨served, crewed⟩
    rw [agrees.1 crewed] at served
    exact served.elim nofun nofun
  rw [Part.judged, kept, Part.judgeReturn_keeps]
  rw [p.setIncident_incident, Incident.reopens_iff]
  exact fun h => h.2 (agrees.2 h.1)

theorem Part.doAmend_stale {p : Part} (h : ∀ k, ¬p.stagingNames k) : p.doAmend = p.refuse .refusedStale := by
  rw [Part.doAmend, Part.stagedIncident_eq_none h]

theorem Part.doAmend_invalid {p : Part} {k : Slot} (h : p.stagingNames k) (invalid : p.amendInvalid k = true) :
    p.doAmend = p.refuse .refusedInvalid := by
  simp only [Part.doAmend, (p.stagedIncident_eq_some_iff k).2 h, if_pos invalid]

/-- An AMEND within its conditions: the new values, the judgement, the trim and the round (R112). -/
theorem Part.doAmend_done {p : Part} {k : Slot} (h : p.stagingNames k) (valid : ¬p.amendInvalid k = true) :
    p.doAmend =
      { part := ((p.judged k ((p.incident k).amended p.bus.staging)).trim k).round
        code := .done
        assigned := none } := by
  simp only [Part.doAmend, (p.stagedIncident_eq_some_iff k).2 h, if_neg valid]
  rfl

theorem exec_amend {s : State} {ln : Lines} {q : Part} {c : ResultCode} (hr : s.part.pins.resetN = true)
    (h : ((s.part.withLines ln).requestKept 2).doAmend = { part := q, code := c, assigned := none }) :
    exec (.amend ln) s = .next { s with part := (q.resultKept 2 c none).settle } :=
  s.next_part (Part.writeBoard_request (p := s.part.withLines ln) (code := 2) hr (by decide) h)

/-- Settles O43, by the incident named, the conditions of R111, and the crew against the state. -/
theorem amendJudged : Obligations.AmendJudged := by
  unfold Obligations.AmendJudged
  intro s ln hr p g quotas answers
  refine ⟨fun stale => exec_amend hr (Part.doAmend_stale stale), fun k named => ?_⟩
  intro i floor invalid j crewed
  have judged : p.amendInvalid k = true ↔ invalid := p.amendInvalid_iff k
  have full : j.crewed = true ↔ crewed := j.crewed_iff
  have opened : j.state ≠ .free := named.2.1
  have amended (valid : ¬invalid) {q : Part} (h : p.judged k j = q) : answers (q.trim k).round .done := by
    subst h
    exact exec_amend hr (Part.doAmend_done named fun bad => valid (judged.1 bad))
  refine ⟨fun bad => exec_amend hr (Part.doAmend_invalid named (judged.2 bad)), fun valid crew waits => ?_,
    fun valid lacking complete => ?_, fun valid agrees => ?_⟩
  · exact amended valid (p.judged_completes k opened waits (full.2 crew))
  · exact amended valid (p.judged_reopens k complete fun h => lacking (full.1 h))
  · exact amended valid (p.judged_stays k (full.trans agrees))

end Sys2Proof.Machine
end

section
namespace Sys2Proof.Machine

/-! ## OPEN (R108, R109) -/

theorem stageDuration_stationDurations (d : Vector Nat 32) (station : Nat) {k : Nat} (low : 1 ≤ k) (high : k ≤ 4) :
    stageDuration (stationDurations d station) k = d[4 * station + (k - 1)]?.getD 0 := by
  rw [stageDuration_eq _ low, Vector.getElem?_eq_getElem (by omega), Option.getD_some, stationDurations,
    Vector.getElem_ofFn]

/-- The conditions of R108 between the link's and the free slot's: station, priority, start stage, quotas, cap and
stages. -/
def Part.openInvalid (p : Part) : Prop :=
  let g := p.bus.staging
  let x := p.settings.active
  let demand := g.quotaNumbers.sum
  7 < g.station.toNat ∨ x.configured.getLsbD g.station.toNat = false ∨ g.priority.toNat = 0 ∨ 3 < g.priority.toNat ∨
    g.startStage.toNat = 0 ∨ 4 < g.startStage.toNat ∨ demand = 0 ∨ g.cap.toNat < demand ∨ 31 < g.cap.toNat ∨
    ∀ k, g.startStage.toNat ≤ k → k ≤ 4 → x.durations[4 * g.station.toNat + (k - 1)]?.getD 0 = 0

/-- The stages tried by an OPEN, from a start stage 1 to 4. -/
theorem usedStageFrom_stationDurations_eq_none_iff (d : Vector Nat 32) (station : Nat) {start : Nat} (h : start ≠ 0) :
    usedStageFrom (stationDurations d station) start = none ↔
      ∀ k, start ≤ k → k ≤ 4 → d[4 * station + (k - 1)]?.getD 0 = 0 := by
  rw [usedStageFrom_eq_none_iff]
  refine forall_congr' fun k => ⟨fun unused after last => ?_, fun unused low last after => ?_⟩
  · rw [← stageDuration_stationDurations d station (by omega) last]
    exact unused (by omega) last after
  · rw [stageDuration_stationDurations d station low last]
    exact unused after last

theorem usedStageFrom_stationDurations_eq_some {d : Vector Nat 32} {station start stage : Nat} (begun : start ≠ 0)
    (after : start ≤ stage) (last : stage ≤ 4) (used : d[4 * station + (stage - 1)]?.getD 0 ≠ 0)
    (first : ∀ j, start ≤ j → j < stage → d[4 * station + (j - 1)]?.getD 0 = 0) :
    usedStageFrom (stationDurations d station) start = some stage := by
  refine usedStageFrom_eq_some ⟨by omega, last⟩ after ?_ fun j low from' below => ?_
  · rwa [stageDuration_stationDurations d station (by omega) last]
  · rw [stageDuration_stationDurations d station low (by omega)]
    exact first j from' below

/-- The table of R108: the conditions in their order. -/
theorem Part.openCheck_eq (p : Part) [Decidable p.openInvalid] :
    p.openCheck =
      if !p.settings.active.scanRun then some .refusedLinkStopped
      else if p.openInvalid then some .refusedInvalid
      else if (List.finRange 4).all p.isOpen then some .refusedFull
      else none := by
  simp only [Part.openCheck, ← ite_or, Staging.demand_eq]
  refine if_congr Iff.rfl rfl (if_congr ?_ rfl rfl)
  rw [Part.openInvalid]
  by_cases start : p.bus.staging.startStage.toNat = 0
  · simp only [start, true_or, or_true]
  · rw [usedStageFrom_stationDurations_eq_none_iff _ _ start]
    simp only [Bool.not_eq_true', or_assoc]

theorem Part.openCheck_stopped {p : Part} (h : p.settings.active.scanRun = false) :
    p.openCheck = some .refusedLinkStopped := by
  classical
  rw [p.openCheck_eq, h, Bool.not_false, if_pos rfl]

section
variable {p : Part} (running : p.settings.active.scanRun = true)
include running

theorem Part.openCheck_invalid (invalid : p.openInvalid) : p.openCheck = some .refusedInvalid := by
  classical
  rw [p.openCheck_eq, running, Bool.not_true, if_neg Bool.false_ne_true, if_pos invalid]

theorem Part.openCheck_full (valid : ¬p.openInvalid) (full : ∀ k : Slot, p.engine.incidents[k].state ≠ .free) :
    p.openCheck = some .refusedFull := by
  classical
  have taken : (List.finRange 4).all p.isOpen = true := List.all_eq_true.2 fun k _ => decide_eq_true (full k)
  rw [p.openCheck_eq, running, Bool.not_true, if_neg Bool.false_ne_true, if_neg valid, if_pos taken]

theorem Part.openCheck_passed (valid : ¬p.openInvalid) {k : Slot} (free : p.engine.incidents[k].state = .free) :
    p.openCheck = none := by
  classical
  have room : ¬(List.finRange 4).all p.isOpen = true := fun taken =>
    absurd free (of_decide_eq_true (List.all_eq_true.1 taken k (List.mem_finRange k)))
  rw [p.openCheck_eq, running, Bool.not_true, if_neg Bool.false_ne_true, if_neg valid, if_neg room]

end

/-- The lowest-numbered FREE slot (R109). -/
theorem Part.freeSlot_eq_some {p : Part} {k : Slot} (free : p.engine.incidents[k].state = .free)
    (first : ∀ j < k, p.engine.incidents[j].state ≠ .free) : p.freeSlot = some k := by
  have shut (j : Slot) : p.isOpen j = true ↔ p.engine.incidents[j].state ≠ .free := decide_eq_true_iff
  rw [Part.freeSlot, ← Fin.find?_eq_find?_finRange, Fin.find?_eq_some_iff]
  refine ⟨?_, fun j below => ?_⟩
  · rw [Bool.not_eq_true', Bool.eq_false_iff, Ne, shut]
    exact not_not_intro free
  · rw [Bool.not_eq_false', shut]
    exact first j below

theorem Part.doOpen_refused {p : Part} {c : ResultCode} (h : p.openCheck = some c) : p.doOpen = p.refuse c := by
  simp only [Part.doOpen, h]

/-- An OPEN within its conditions: the incident in its slot, and the round (R109). -/
theorem Part.doOpen_done {p : Part} {k : Slot} {stage : Nat} (passed : p.openCheck = none) (slot : p.freeSlot = some k)
    (used : usedStageFrom (stationDurations p.settings.active.durations p.bus.staging.station.toNat)
      p.bus.staging.startStage.toNat = some stage) :
    p.doOpen = { part := (p.openSlot k stage).round, code := .done,
                 assigned := some (k, ((p.openSlot k stage).incident k).generation) } := by
  simp only [Part.doOpen, passed, slot, used]

/-- The record an OPEN makes, field by field (R109). -/
theorem Incident.opened_eq (i : Incident) (g : Staging) (x : Settings) (number : Word) {stage : Nat} (low : 1 ≤ stage)
    (high : stage ≤ 4) :
    let duration (k : Nat) : Nat := x.durations[4 * g.station.toNat + (k - 1)]?.getD 0
    i.opened g x number stage =
      { state := .calling, generation := i.generation + 1, tag := g.tag, station := g.station.toNat,
        priority := g.priority.toNat, openNumber := number,
        durations := #v[duration 1, duration 2, duration 3, duration 4], testScale := x.testScale, stage := stage,
        timer := some (duration stage), quotas := g.quotas.map BitVec.toNat, cap := g.cap.toNat,
        tallies := #v[0, 0, 0, 0, 0, 0], extras := 0, attendees := [], offers := 0, declines := 0, turnedBack := 0,
        unreachable := 0 } := by
  dsimp only
  rw [← stageDuration_stationDurations x.durations g.station.toNat low high]
  rfl

theorem Part.openSlot_eq (p : Part) (k : Slot) (stage : Nat) :
    p.openSlot k stage =
      { p with engine := { p.engine with
          openCounter := p.engine.openCounter + 1
          age := p.engine.age ++ [k]
          incidents := p.engine.incidents.set k
            ((p.incident k).opened p.bus.staging p.settings.active (p.engine.openCounter + 1) stage) } } := rfl

theorem exec_openIncident {s : State} {ln : Lines} {q : Part} {c : ResultCode} {assigned : Option (Slot × BitVec 4)}
    (hr : s.part.pins.resetN = true)
    (h : ((s.part.withLines ln).requestKept 1).doOpen = { part := q, code := c, assigned := assigned }) :
    exec (.openIncident ln) s = .next { s with part := (q.endHold.resultKept 1 c assigned).settle } :=
  s.next_part (Part.writeBoard_open (p := s.part.withLines ln) hr h)

/-- Settles O42, by the table of R108. -/
theorem openJudged : Obligations.OpenJudged := by
  unfold Obligations.OpenJudged
  intro s ln hr p g x station start demand duration invalid isFree answers
  refine ⟨fun stopped => ?_, fun running bad => ?_, fun running valid full => ?_,
    fun running valid k free lowest stage after last used first => ?_⟩
  · exact exec_openIncident hr (Part.doOpen_refused (Part.openCheck_stopped stopped))
  · exact exec_openIncident hr (Part.doOpen_refused (Part.openCheck_invalid running bad))
  · exact exec_openIncident hr (Part.doOpen_refused (Part.openCheck_full running valid full))
  · have begun : start ≠ 0 := fun h => valid (.inr (.inr (.inr (.inr (.inl h)))))
    have low : 1 ≤ stage := (Nat.one_le_iff_ne_zero.2 begun).trans after
    intro e opened q
    have record : (p.incident k).opened g x (e.openCounter + 1) stage = opened := Incident.opened_eq _ g x _ low last
    have slot : p.openSlot k stage = q := by
      rw [p.openSlot_eq]
      exact congrArg (fun i => { p with engine := { e with
        openCounter := e.openCounter + 1, age := e.age ++ [k], incidents := e.incidents.set k i } }) record
    have own : (p.openSlot k stage).incident k = opened := slot ▸ Vector.getElem_set_self k.isLt
    have run := Part.doOpen_done (p := p) (Part.openCheck_passed running valid free) (Part.freeSlot_eq_some free lowest)
      (usedStageFrom_stationDurations_eq_some begun after last used first)
    rw [own, slot] at run
    exact exec_openIncident hr run

end Sys2Proof.Machine
end

section
namespace Sys2Proof.Machine

/-! ## Slots closed (R114, R117) -/

/-- The slots picked are closed: they leave every declined-for set and the age order, and become FREE (R114, steps 2
and 3). -/
def Part.closing (p : Part) (c : Slot → Bool) : Part :=
  { p with engine := { p.engine with
      standing := p.engine.standing.map fun x => { x with declined := Vector.ofFn fun k => !c k && x.declined[k] }
      incidents := Vector.ofFn fun k => if c k then p.engine.incidents[k].closed else p.engine.incidents[k]
      age := p.engine.age.filter fun k => !c k } }

theorem Incident.close_eq (i : Incident) : i.close = i.closed := rfl

theorem Part.freeIncident_eq (p : Part) (k : Slot) : p.freeIncident k = p.closing fun j => decide (j = k) := by
  have declined (x : Standing) : update x.declined k (fun _ => false) =
      Vector.ofFn fun j => !decide (j = k) && x.declined[j] := by
    ext j hj
    rw [update_getElem, Vector.getElem_ofFn]
    by_cases own : j = k.val <;> simp [own, Fin.ext_iff]
  have incidents : update p.engine.incidents k Incident.close =
      Vector.ofFn fun j => if decide (j = k) then p.engine.incidents[j].closed else p.engine.incidents[j] := by
    refine Vector.ext fun j hj => ?_
    rw [update_getElem, Vector.getElem_ofFn]
    by_cases own : j = k.val <;> simp [own, Fin.ext_iff, Incident.close_eq]
  have age : p.engine.age.filter (fun j => decide (j ≠ k)) = p.engine.age.filter fun j => !decide (j = k) := by
    simp
  unfold Part.freeIncident Part.closing Part.onEngine
  simp only [declined, incidents, age]

theorem Part.closing_none (p : Part) : (p.closing fun _ => false) = p := by
  have standing : p.engine.standing.map (fun x => { x with declined := Vector.ofFn fun k : Slot => x.declined[k] }) =
      p.engine.standing := by
    refine (Vector.map_congr_left fun x _ => ?_).trans (Vector.map_id _)
    exact congrArg (Standing.mk x.engagement) Vector.ofFn_getElem
  have incidents : (Vector.ofFn fun k : Slot => p.engine.incidents[k]) = p.engine.incidents := Vector.ofFn_getElem
  simp only [Part.closing, Bool.not_false, Bool.true_and, Bool.false_eq_true, if_false, List.filter_true, standing,
    incidents]

theorem Part.closing_closing (p : Part) (c d : Slot → Bool) :
    (p.closing c).closing d = p.closing fun k => c k || d k := by
  have declined (x : Standing) :
      (Vector.ofFn fun k : Slot => !d k && (Vector.ofFn fun k : Slot => !c k && x.declined[k])[k]) =
        Vector.ofFn fun k : Slot => !(c k || d k) && x.declined[k] := by
    refine congrArg Vector.ofFn (funext fun k => ?_)
    rw [Fin.getElem_fin, Vector.getElem_ofFn, Bool.not_or, Bool.and_comm (!c k) (!d k), Bool.and_assoc]
  have incident (i : Incident) (k : Slot) :
      (if d k then (if c k then i.closed else i).closed else if c k then i.closed else i) =
        if c k || d k then i.closed else i := by
    cases c k <;> cases d k <;> rfl
  have age (k : Slot) : (!d k && !c k) = !(c k || d k) := by rw [Bool.not_or, Bool.and_comm]
  simp only [Part.closing, Vector.map_map, Function.comp_def, List.filter_filter, declined, age, ← incident]
  simp only [Fin.getElem_fin, Vector.getElem_ofFn]

/-- Slots closed one after another are closed together. -/
theorem Part.foldl_freeIncident (slots : List Slot) (p : Part) :
    slots.foldl Part.freeIncident p = p.closing fun k => decide (k ∈ slots) := by
  induction slots generalizing p with
  | nil =>
    simp only [List.not_mem_nil, decide_false]
    exact p.closing_none.symm
  | cons s slots ih =>
    rw [List.foldl_cons, ih, p.freeIncident_eq, Part.closing_closing]
    simp only [List.mem_cons, Bool.decide_or]

/-! ## Those engaged stood down -/

theorem Part.engagedWith_eq (p : Part) (k : Slot) :
    p.engagedWith k = (List.finRange 240).filter fun v =>
      decide (p.engagement v = .offered k ∨ p.engagement v = .attending k) := by
  unfold Part.engagedWith volunteersWhere
  refine List.filter_congr fun v _ => ?_
  rw [Bool.decide_or, beq_eq_decide, beq_eq_decide]

/-- A volunteer engaged with one slot is not engaged with another, so one slot's stand-down leaves the others'
(R122). -/
theorem Part.engagedWith_standDownSlot (p : Part) {s k : Slot} (apart : k ≠ s) :
    (p.standDownSlot s).engagedWith k = p.engagedWith k := by
  rw [Part.engagedWith_eq, Part.engagedWith_eq]
  refine List.filter_congr fun v _ => decide_eq_decide.2 ?_
  rw [p.engagement_standDownSlot]
  split
  · next into =>
    obtain h | h := (p.mem_engagedWith s v).1 into <;> simp [h, apart.symm]
  · exact Iff.rfl

/-- Slots stood down one after another stand down those engaged at the start. -/
theorem Part.foldl_standDownSlot (p : Part) (slots : List Slot) (once : slots.Nodup) (q : Part)
    (same : ∀ k ∈ slots, q.engagedWith k = p.engagedWith k) :
    slots.foldl Part.standDownSlot q = slots.foldl (fun r k => r.standDownAll (p.engagedWith k)) q := by
  induction slots generalizing q with
  | nil => rfl
  | cons s slots ih =>
    obtain ⟨apart, once⟩ := List.nodup_cons.1 once
    have head : q.standDownSlot s = q.standDownAll (p.engagedWith s) := by
      rw [← same s List.mem_cons_self]
      rfl
    rw [List.foldl_cons, List.foldl_cons, ← head]
    refine ih once _ fun k hk => ?_
    rw [q.engagedWith_standDownSlot fun e : k = s => apart (e ▸ hk)]
    exact same k (List.mem_cons_of_mem s hk)

theorem Part.engagedAny_eq (p : Part) :
    p.engagedAny = (List.finRange 240).filter fun v => p.openSlots.any fun k => decide (v ∈ p.engagedWith k) := by
  unfold Part.engagedAny volunteersWhere
  refine List.filter_congr fun v _ => ?_
  congr 1
  funext k
  rw [decide_eq_decide.2 (p.mem_engagedWith k v), Bool.decide_or, beq_eq_decide, beq_eq_decide]

theorem Part.roundIf_freed (p : Part) (freed : List VolunteerIx) :
    p.roundIf (!freed.isEmpty) = if freed = [] then p else p.round := by
  cases freed <;> rfl

/-! ## CLOSE and ENGINE-CLEAR -/

theorem Part.doClose_stale {p : Part} (h : ∀ k, ¬p.stagingNames k) : p.doClose = p.refuse .refusedStale := by
  rw [Part.doClose, Part.stagedIncident_eq_none h]

/-- A CLOSE: stood down, closed, pending slots, and a round where anyone became FREE (R114, R126; log 8). -/
theorem Part.doClose_done {p : Part} {k : Slot} {freed : List VolunteerIx} (h : p.stagingNames k)
    (engaged : p.engagedWith k = freed) :
    let closed := freed.foldl Part.actOnPending ((p.standDownAll freed).closing fun j => decide (j = k))
    p.doClose = { part := if freed = [] then closed else closed.round, code := .done, assigned := none } := by
  intro closed
  subst engaged
  rw [← Part.roundIf_freed]
  simp only [Part.doClose, (p.stagedIncident_eq_some_iff k).2 h, Part.freeIncident_eq]
  rfl

/-- An ENGINE-CLEAR closes every open slot in the steps of a CLOSE (R117, R126; log 8). -/
theorem Part.doEngineClear_eq {p : Part} {engaged : Slot → List VolunteerIx} (h : ∀ k, p.engagedWith k = engaged k) :
    let freed := (List.finRange 240).filter fun v => p.openSlots.any fun k => decide (v ∈ engaged k)
    let stood := p.openSlots.foldl (fun q k => q.standDownAll (engaged k)) p
    let cleared := freed.foldl Part.actOnPending (stood.closing p.isOpen)
    p.doEngineClear = { part := if freed = [] then cleared else cleared.round, code := .done, assigned := none } := by
  obtain rfl : p.engagedWith = engaged := funext h
  intro freed stood cleared
  have listed : (fun k => decide (k ∈ p.openSlots)) = p.isOpen := by
    funext k
    simp [Part.openSlots]
  have once : p.openSlots.Nodup := (List.nodup_finRange 4).filter _
  have closed : p.openSlots.foldl Part.freeIncident (p.openSlots.foldl Part.standDownSlot p) =
      stood.closing p.isOpen := by
    rw [p.foldl_standDownSlot _ once p fun _ _ => rfl, Part.foldl_freeIncident, listed]
  rw [← Part.roundIf_freed]
  simp only [Part.doEngineClear, closed, Part.engagedAny_eq]
  rfl

theorem exec_closeIncident {s : State} {ln : Lines} {q : Part} {c : ResultCode} (hr : s.part.pins.resetN = true)
    (h : ((s.part.withLines ln).requestKept 3).doClose = { part := q, code := c, assigned := none }) :
    exec (.closeIncident ln) s = .next { s with part := (q.resultKept 3 c none).settle } :=
  s.next_part (Part.writeBoard_request (p := s.part.withLines ln) (code := 3) hr (by decide) h)

theorem exec_engineClear {s : State} {ln : Lines} {q : Part} {c : ResultCode} (hr : s.part.pins.resetN = true)
    (h : ((s.part.withLines ln).requestKept 7).doEngineClear = { part := q, code := c, assigned := none }) :
    exec (.engineClear ln) s = .next { s with part := (q.resultKept 7 c none).settle } :=
  s.next_part (Part.writeBoard_request (p := s.part.withLines ln) (code := 7) hr (by decide) h)

/-- Settles O44: CLOSE by the incident named, then ENGINE-CLEAR. -/
theorem incidentsClosed : Obligations.IncidentsClosed := by
  unfold Obligations.IncidentsClosed
  intro s ln hr p answers engaged closing isOpen openSlots stood freed
  have listed (code : Word) (k : Slot) : (p code).engagedWith k = engaged k := (p code).engagedWith_eq k
  refine ⟨fun stale => exec_closeIncident hr (Part.doClose_stale stale), fun k named => ?_, ?_⟩
  · exact exec_closeIncident hr (Part.doClose_done named (listed 3 k))
  · exact exec_engineClear hr (Part.doEngineClear_eq (listed 7))

end Sys2Proof.Machine
end

/-! # Offers and attendance: the proofs of the statements about admissions, presses, removals and the offer round -/

section
namespace Sys2Proof.Machine

/-! ## The assignment of an admission (R138) -/

/-- A role of the set with an unmet need: one that an admission can be assigned. -/
def Incident.wanted (i : Incident) (roles : BitVec 6) (r : RoleIx) : Prop :=
  roles.getLsbD r.val = true ∧ 0 < i.unmet r

theorem Incident.wanted_iff (i : Incident) (roles : BitVec 6) (r : RoleIx) :
    (roles.getLsbD r.val && decide (0 < i.unmet r)) = true ↔ i.wanted roles r := by
  rw [Bool.and_eq_true, decide_eq_true_iff]
  rfl

section
variable {i : Incident} {roles : BitVec 6} {r : RoleIx}

theorem Incident.betterRole_unwanted (h : ¬i.wanted roles r) (best : Option RoleIx) :
    i.betterRole roles best r = best :=
  if_neg (mt (i.wanted_iff roles r).1 h)

theorem Incident.betterRole_first (h : i.wanted roles r) : i.betterRole roles none r = some r :=
  if_pos ((i.wanted_iff roles r).2 h)

/-- A later role is better only where its need is larger. -/
theorem Incident.betterRole_next (h : i.wanted roles r) (b : RoleIx) :
    i.betterRole roles (some b) r = if i.unmet b < i.unmet r then some r else some b :=
  if_pos ((i.wanted_iff roles r).2 h)

/-- Roles of smaller need leave a choice of smaller need, if any. -/
theorem Incident.foldl_betterRole_below {n : Nat} (l : List RoleIx) (below : ∀ x ∈ l, i.wanted roles x → i.unmet x < n)
    (best : Option RoleIx) (start : ∀ b ∈ best, i.unmet b < n) :
    ∀ b ∈ l.foldl (i.betterRole roles) best, i.unmet b < n := by
  induction l generalizing best with
  | nil => exact start
  | cons x l ih =>
    obtain ⟨hx, hl⟩ := List.forall_mem_cons.1 below
    refine ih hl _ ?_
    by_cases wants : i.wanted roles x
    · cases best with
      | none =>
        rw [Incident.betterRole_first wants]
        rintro b ⟨⟩
        exact hx wants
      | some c =>
        rw [Incident.betterRole_next wants]
        split
        · rintro b ⟨⟩
          exact hx wants
        · exact start
    · rw [Incident.betterRole_unwanted wants]
      exact start

/-- The role of largest unmet need among the volunteer's, the lowest number on a tie. -/
theorem Incident.neededRole_eq_some (wants : i.wanted roles r)
    (most : ∀ x, i.wanted roles x → i.unmet x ≤ i.unmet r ∧ (i.unmet x = i.unmet r → r ≤ x)) :
    i.neededRole roles = some r := by
  obtain ⟨before, after, listed⟩ := List.append_of_mem (List.mem_finRange r)
  have sorted := List.pairwise_lt_finRange 6
  rw [listed, List.pairwise_append] at sorted
  have earlier : ∀ x ∈ before, i.wanted roles x → i.unmet x < i.unmet r := fun x hx wx =>
    lt_of_le_of_ne (most x wx).1 fun tie =>
      absurd ((most x wx).2 tie) (not_le.2 (sorted.2.2 x hx r List.mem_cons_self))
  have below := Incident.foldl_betterRole_below before earlier none nofun
  have chosen : i.betterRole roles (before.foldl (i.betterRole roles) none) r = some r := by
    cases found : before.foldl (i.betterRole roles) none with
    | none => exact Incident.betterRole_first wants
    | some b => rw [Incident.betterRole_next wants, if_pos (below b found)]
  have kept (x : RoleIx) : i.betterRole roles (some r) x = some r := by
    by_cases wx : i.wanted roles x
    · rw [Incident.betterRole_next wx, if_neg (not_lt.2 (most x wx).1)]
    · exact Incident.betterRole_unwanted wx _
  rw [i.neededRole_eq, listed, List.foldl_append, List.foldl_cons, chosen, List.foldl_fixed' kept]

theorem Incident.neededRole_eq_none (h : ∀ r, ¬i.wanted roles r) : i.neededRole roles = none :=
  (i.neededRole_eq roles).trans (List.foldl_fixed' (fun x => Incident.betterRole_unwanted (h x) none) _)

theorem Incident.assignment_of_role (h : i.neededRole roles = some r) : i.assignment roles = some (.role r) := by
  simp only [Incident.assignment, h]

/-- With no role to fill, EXTRA or a turn-back by the cap. -/
theorem Incident.assignment_of_none (h : ∀ r, ¬i.wanted roles r) :
    i.assignment roles = if i.attendees.length + i.totalUnmet < i.cap then some .extra else none := by
  simp only [Incident.assignment, Incident.neededRole_eq_none h]

end

/-! ## Trims (R133) -/

theorem Incident.needs_eq_false_iff (i : Incident) (roles : BitVec 6) :
    i.needs roles = false ↔ ∀ r : RoleIx, roles.getLsbD r.val = true → i.quotas[r] ≤ i.tallies[r] := by
  rw [Incident.needs, List.any_eq_false]
  refine forall_congr' fun r => ?_
  rw [i.wanted_iff, Incident.wanted, not_and, Nat.not_lt, Nat.le_zero]
  exact (forall_prop_of_true (List.mem_finRange r)).trans (forall_congr' fun _ => Nat.sub_eq_zero_iff_le)

theorem Part.surplus_eq (p : Part) (k : Slot) :
    p.surplus k = (List.finRange 240).filter fun x =>
      decide (p.engagement x = .offered k ∧
        ∀ r : RoleIx, (p.shadow x).roles.getLsbD r.val = true →
          (p.incident k).quotas[r] ≤ (p.incident k).tallies[r]) := by
  unfold Part.surplus volunteersWhere
  refine List.filter_congr fun x _ => ?_
  rw [Bool.eq_iff_iff, decide_eq_true_iff, Bool.and_eq_true, beq_iff_eq, Bool.not_eq_true',
    Incident.needs_eq_false_iff]

theorem Part.trim_eq (p : Part) (k : Slot) :
    p.trim k = (p.surplus k).foldl Part.actOnPending (p.standDownAll (p.surplus k)) := rfl

/-! ## Admissions (R138) -/

/-- The volunteer attends slot `k`, whose record becomes `j`. -/
def Part.joined (p : Part) (v : VolunteerIx) (k : Slot) (j : Incident) : Part :=
  { p.setIncident k j with engine := { (p.setIncident k j).engine with
      standing := p.engine.standing.set v { p.engine.standing[v] with engagement := .attending k } } }

theorem Part.admitted_extra (p : Part) (v : VolunteerIx) (k : Slot) (eta : Nat) :
    p.admitted v k .extra eta =
      (p.joined v k ((p.incident k).enlist { volunteer := v, assignment := .extra, eta := eta })).report
        .attendTaken := rfl

section
variable {p : Part} {v : VolunteerIx} {k : Slot} {r : RoleIx} {eta : Nat} {j : Incident}
  (enlisted : (p.incident k).enlist { volunteer := v, assignment := .role r, eta := eta } = j)
include enlisted

/-- An admission that completes the crew (R106). -/
theorem Part.admitted_completes (h : j.completes = true) :
    p.admitted v k (.role r) eta =
      ((p.joined v k { j with state := .complete, timer := none }).report .attendTaken).report .crewComplete := by
  subst enlisted
  have judged : Incident.judgeComplete _ = _ := if_pos h
  rw [p.admitted_role]
  exact (if_pos h).trans (congrArg (fun i => ((p.joined v k i).report .attendTaken).report .crewComplete) judged)

theorem Part.admitted_waits (h : ¬j.completes = true) :
    p.admitted v k (.role r) eta = (p.joined v k j).report .attendTaken := by
  subst enlisted
  have judged : Incident.judgeComplete _ = _ := if_neg h
  rw [p.admitted_role]
  exact (if_neg h).trans (congrArg (fun i => (p.joined v k i).report .attendTaken) judged)

end

/-- Settles O46: the role by the fold over the six, the admission by whether it completes the crew. -/
theorem admissionMade : Obligations.AdmissionMade := by
  unfold Obligations.AdmissionMade
  refine ⟨fun i roles => ?_, fun p v k eta => ?_⟩
  · intro unmet mine
    refine ⟨fun r wants most => ?_, fun unneeded room => ?_, fun unneeded full => ?_⟩
    · exact Incident.assignment_of_role (Incident.neededRole_eq_some wants most)
    · exact (Incident.assignment_of_none unneeded).trans (if_pos room)
    · exact (Incident.assignment_of_none unneeded).trans (if_neg (not_lt.2 full))
  · intro i entry joined
    refine ⟨p.admitted_extra v k eta, fun r => ?_, ?_⟩
    · intro j completes
      have judged : j.completes = true ↔ completes := by
        rw [j.completes_iff, j.crewed_iff]
      have enlisted : i.enlist (entry (.role r)) = j := rfl
      refine ⟨fun full => ?_, fun lacking => ?_⟩
      · exact congrArg (Part.trim · k) (Part.admitted_completes enlisted (judged.2 full))
      · exact congrArg (Part.trim · k) (Part.admitted_waits enlisted fun full => lacking (judged.1 full))
    · intro surplus
      have listed : p.surplus k = surplus := p.surplus_eq k
      rw [p.trim_eq, listed]

end Sys2Proof.Machine
end

section
namespace Sys2Proof.Machine

/-! ## Leaving a slot (R131, R132) -/

theorem volunteerOf_eq_some_iff (n : Nat) (v : VolunteerIx) : volunteerOf n = some v ↔ n = v.val + 1 := by
  unfold volunteerOf
  rw [Option.dite_none_right_eq_some]
  constructor
  · rintro ⟨_, e⟩
    have number : n - 1 = v.val := congrArg Fin.val (Option.some.inj e)
    omega
  · rintro rfl
    exact ⟨⟨by omega, by omega⟩, rfl⟩

theorem volunteerOf_eq_none {n : Nat} (h : n = 0 ∨ 240 < n) : volunteerOf n = none := dif_neg (by omega)

theorem Part.setFree_addDeclined (p : Part) (v : VolunteerIx) (k : Slot) :
    (p.addDeclined v k).setFree v = p.leaves v k := by
  simp only [Part.setFree, Part.addDeclined, Part.onStanding, Part.onEngine, Part.leaves, update, Vector.set_set,
    Fin.getElem_fin, Vector.getElem_set_self]

/-- A FREE volunteer leaves a slot by the declined-for set alone. -/
theorem Part.addDeclined_of_free {p : Part} {v : VolunteerIx} (h : p.engagement v = .free) (k : Slot) :
    p.addDeclined v k = p.leaves v k := by
  have left : ({ p.engine.standing[v] with declined := update p.engine.standing[v].declined k fun _ => true } :
      Standing) = { engagement := .free, declined := p.engine.standing[v].declined.set k true } := by
    rw [← h]
    rfl
  exact congrArg (fun x => { p with engine := { p.engine with standing := p.engine.standing.set v x } }) left

theorem Part.engagement_tell (p : Part) (v : VolunteerIx) (m : Message) (x : VolunteerIx) :
    (p.tell v m).engagement x = p.engagement x := by
  rw [Part.engagement, Part.tell_engine]
  rfl

theorem Part.engagement_judgeReturn (p : Part) (k : Slot) (x : VolunteerIx) :
    (p.judgeReturn k).engagement x = p.engagement x := by
  unfold Part.judgeReturn
  split <;> rfl

theorem Part.engagement_removeAttendee (p : Part) (v : VolunteerIx) (k : Slot) :
    (p.removeAttendee v k).engagement v = .free := by
  rw [Part.removeAttendee, Part.engagement_judgeReturn, Part.engagement_setFree, if_pos rfl]

/-- An attendee removed, stood down, and gone from the slot for good (R132, R147). -/
theorem Part.addDeclined_removeAttendee (p : Part) (v : VolunteerIx) (k : Slot) :
    ((p.removeAttendee v k).tell v .standDown).addDeclined v k =
      ((p.removeAttendee v k).tell v .standDown).leaves v k :=
  Part.addDeclined_of_free ((Part.engagement_tell _ v _ v).trans (p.engagement_removeAttendee v k)) k

/-! ## The removal of an attendee (R132) -/

section
variable {i : Incident} {v : VolunteerIx} {before after : List Attendee} {x : Attendee}
  (listed : i.attendees = before ++ x :: after) (own : x.volunteer = v) (first : ∀ y ∈ before, y.volunteer ≠ v)
include listed own first

theorem Incident.entryOf_first : i.entryOf v = some x :=
  List.find?_eq_some_iff_append.2
    ⟨decide_eq_true own, before, after, listed, fun y hy => by rw [decide_eq_false (first y hy), Bool.not_false]⟩

theorem Incident.erase_first : i.attendees.erase x = before ++ after := by
  rw [listed, List.erase_append_right _ fun hx => first x hx own, List.erase_cons_head]

theorem Incident.remove_role {r : RoleIx} (held : x.assignment = .role r) :
    i.remove v = { i with attendees := before ++ after, tallies := i.tallies.set r (i.tallies[r] - 1) } := by
  simp only [Incident.remove, Incident.entryOf_first listed own first, held, Incident.erase_first listed own first]
  rfl

theorem Incident.remove_extra (held : x.assignment = .extra) :
    i.remove v = { i with attendees := before ++ after, extras := i.extras - 1 } := by
  simp only [Incident.remove, Incident.entryOf_first listed own first, held, Incident.erase_first listed own first]

end

/-- A removal leaves the stages as they were. -/
theorem Incident.remove_stage (i : Incident) (v : VolunteerIx) :
    (i.remove v).durations = i.durations ∧ (i.remove v).stage = i.stage := by
  obtain ⟨-, e⟩ | ⟨x, -, -, -, ⟨r, -, e⟩ | ⟨-, e⟩⟩ := i.remove_cases v <;> rw [e] <;> exact ⟨rfl, rfl⟩

theorem Incident.not_crewed_iff (i : Incident) : ¬i.crewed = true ↔ ∃ r : RoleIx, i.tallies[r] < i.quotas[r] := by
  rw [i.crewed_iff, not_forall]
  exact exists_congr fun r => Nat.not_le

theorem Part.setIncident_setFree (p : Part) (v : VolunteerIx) (k : Slot) (i : Incident) :
    (p.setFree v).setIncident k i = (p.setIncident k i).setFree v := rfl

section
variable {p : Part} {v : VolunteerIx} {k : Slot} {j : Incident} (removed : (p.incident k).remove v = j)
include removed

theorem Part.removeAttendee_of_remove : p.removeAttendee v k = ((p.setIncident k j).setFree v).judgeReturn k := by
  subst removed
  rfl

/-- A COMPLETE incident that loses one of its crew is called again (R107). -/
theorem Part.removeAttendee_reopens (complete : (p.incident k).state = .complete) (short : ¬j.crewed = true) :
    p.removeAttendee v k =
      ((p.setIncident k { j with
        state := .calling
        timer := some (stageDuration (p.incident k).durations (p.incident k).stage) }).setFree v).report
          .callingAgain := by
  rw [Part.removeAttendee_of_remove removed]
  subst removed
  obtain ⟨state, -⟩ := (p.incident k).remove_state v
  obtain ⟨durations, stage⟩ := (p.incident k).remove_stage v
  have own : ((p.setIncident k ((p.incident k).remove v)).setFree v).incident k = (p.incident k).remove v :=
    p.setIncident_incident k _
  have reopens : ((p.incident k).remove v).reopens = true := (Incident.reopens_iff _).2 ⟨state.trans complete, short⟩
  have judged : ((p.incident k).remove v).judgeReturn = { (p.incident k).remove v with
      state := .calling
      timer := some (stageDuration (p.incident k).durations (p.incident k).stage) } := by
    rw [← durations, ← stage]
    exact if_pos reopens
  rw [Part.judgeReturn, own, if_pos reopens, Part.onIncident_eq, own, judged, Part.setIncident_setFree,
    p.setIncident_setIncident]

theorem Part.removeAttendee_stays (h : (p.incident k).state ≠ .complete ∨ ¬¬j.crewed = true) :
    p.removeAttendee v k = (p.setIncident k j).setFree v := by
  rw [Part.removeAttendee_of_remove removed]
  subst removed
  obtain ⟨state, -⟩ := (p.incident k).remove_state v
  have own : ((p.setIncident k ((p.incident k).remove v)).setFree v).incident k = (p.incident k).remove v :=
    p.setIncident_incident k _
  refine Part.judgeReturn_keeps ?_
  rw [own, Incident.reopens_iff, state]
  tauto

end

/-! ## RELEASE (R147) -/

section
variable {p : Part} {v : VolunteerIx} (own : p.bus.staging.volunteer.toNat = v.val + 1)
include own

theorem Part.doRelease_free (h : p.engagement v = .free) : p.doRelease = p.refuse .refusedState := by
  simp only [Part.doRelease, (volunteerOf_eq_some_iff _ v).2 own, h]

theorem Part.doRelease_offered {k : Slot} (h : p.engagement v = .offered k) :
    p.doRelease = { part := (((p.tell v .standDown).leaves v k).actOnPending v).round, code := .done,
                    assigned := none } := by
  simp only [Part.doRelease, (volunteerOf_eq_some_iff _ v).2 own, h, Part.setFree_addDeclined]
  rfl

theorem Part.doRelease_attending {k : Slot} (h : p.engagement v = .attending k) :
    p.doRelease = { part := ((((p.removeAttendee v k).tell v .standDown).leaves v k).actOnPending v).round
                    code := .done, assigned := none } := by
  simp only [Part.doRelease, (volunteerOf_eq_some_iff _ v).2 own, h, p.addDeclined_removeAttendee]
  rfl

end

theorem Part.doRelease_invalid {p : Part}
    (h : p.bus.staging.volunteer.toNat = 0 ∨ 240 < p.bus.staging.volunteer.toNat) :
    p.doRelease = p.refuse .refusedInvalid := by
  simp only [Part.doRelease, volunteerOf_eq_none h]

theorem exec_release {s : State} {ln : Lines} {q : Part} {c : ResultCode} (hr : s.part.pins.resetN = true)
    (h : ((s.part.withLines ln).requestKept 6).doRelease = { part := q, code := c, assigned := none }) :
    exec (.release ln) s = .next { s with part := (q.resultKept 6 c none).settle } :=
  s.next_part (Part.writeBoard_request (p := s.part.withLines ln) (code := 6) hr (by decide) h)

/-- Settles O49: RELEASE by the engagement, then the removal by the assignment held and the crew that is left. -/
theorem releaseJudged : Obligations.ReleaseJudged := by
  unfold Obligations.ReleaseJudged
  refine ⟨fun s ln hr => ?_, fun p v k before after x => ?_⟩
  · intro p n answers
    refine ⟨fun unknown => exec_release hr (Part.doRelease_invalid unknown), fun v own => ⟨fun free => ?_,
      fun k offered => ?_, fun k attending => ?_⟩⟩
    · exact exec_release hr (Part.doRelease_free (p := p) own free)
    · exact exec_release hr (Part.doRelease_offered (p := p) own offered)
    · exact exec_release hr (Part.doRelease_attending (p := p) own attending)
  · intro i listed own first j freed short
    have removed : i.remove v = j := by
      cases held : x.assignment with
      | role r => simp only [j, held, Incident.remove_role listed own first held]
      | extra => simp only [j, held, Incident.remove_extra listed own first held]
    have lacking : ¬j.crewed = true ↔ short := j.not_crewed_iff
    refine ⟨fun complete lost => ?_, fun stays => ?_⟩
    · exact Part.removeAttendee_reopens removed complete (lacking.2 lost)
    · exact Part.removeAttendee_stays removed (stays.imp_right fun full => mt lacking.1 full)

end Sys2Proof.Machine
end

section
namespace Sys2Proof.Machine

/-! ## Whom an admission frees (R126, R133, R145) -/

theorem Part.engagement_judgeComplete (p : Part) (k : Slot) (x : VolunteerIx) :
    (p.judgeComplete k).engagement x = p.engagement x := by
  unfold Part.judgeComplete
  split <;> rfl

theorem Part.engagement_admitted (p : Part) (v : VolunteerIx) (k : Slot) (a : Assignment) (eta : Nat)
    (x : VolunteerIx) :
    (p.admitted v k a eta).engagement x = if x = v then .attending k else p.engagement x := by
  cases a with
  | role r =>
    refine (Part.engagement_judgeComplete _ k x).trans ?_
    exact Part.engagement_onStanding _ v _ x
  | extra => exact Part.engagement_onStanding _ v _ x

theorem Part.engagement_trim (p : Part) (k : Slot) (x : VolunteerIx) :
    (p.trim k).engagement x = if x ∈ p.surplus k then .free else p.engagement x := by
  rw [← Part.engagement_foldl _ Part.engagement_standDownFree, Part.trim, Part.engagement, Part.actOnPendings_engine]
  rfl

/-- The cause of an admission's round: somebody else was OFFERED the slot and is FREE after it. -/
theorem Part.admitFrees_iff (p : Part) (v : VolunteerIx) (k : Slot) (a : Assignment) (eta : Nat) :
    p.admitFrees v k a eta = true ↔
      ∃ x : VolunteerIx, x ≠ v ∧ p.engagement x = .offered k ∧ (p.enlist v k a eta).engagement x = .free := by
  cases a with
  | extra =>
    refine iff_of_false nofun ?_
    rintro ⟨x, other, offered, free⟩
    have same : (p.admitted v k .extra eta).engagement x = p.engagement x :=
      (p.engagement_admitted v k .extra eta x).trans (if_neg other)
    exact absurd (offered.symm.trans (same.symm.trans free)) nofun
  | role r =>
    have freed (x : VolunteerIx) : (p.enlist v k (.role r) eta).engagement x =
        if x ∈ (p.admitted v k (.role r) eta).surplus k then .free
        else if x = v then .attending k else p.engagement x := by
      rw [← p.engagement_admitted v k (.role r) eta x]
      exact Part.engagement_trim _ k x
    rw [Part.admitFrees, Bool.not_eq_true', List.isEmpty_eq_false_iff_exists_mem]
    refine exists_congr fun x => ⟨fun surplus => ?_, fun ⟨other, offered, free⟩ => ?_⟩
    · have offered := ((Part.mem_surplus _ k x).1 surplus).1
      rw [Part.engagement_admitted] at offered
      split at offered
      · cases offered
      · next other => exact ⟨other, offered, (freed x).trans (if_pos surplus)⟩
    · by_contra kept
      rw [freed, if_neg kept, if_neg other, offered] at free
      cases free

theorem Part.roundIf_true {b : Bool} {c : Prop} (cause : b = true ↔ c) (h : c) (q : Part) : q.roundIf b = q.round :=
  if_pos (cause.2 h)

theorem Part.roundIf_false {b : Bool} {c : Prop} (cause : b = true ↔ c) (h : ¬c) (q : Part) : q.roundIf b = q :=
  if_neg (mt cause.1 h)

/-! ## ATTEND (R137 to R139) -/

theorem Part.names_iff (p : Part) (k : Slot) (g : BitVec 4) :
    p.names k g = true ↔ p.engine.incidents[k].state ≠ .free ∧ p.engine.incidents[k].generation = g := by
  rw [Part.names, Bool.and_eq_true, beq_iff_eq]
  exact and_congr_left fun _ => decide_eq_true_iff

/-- The part after a turn-back's own work: stood down, gone from the slot for good, and counted (R139). -/
def Part.turnedAway (p : Part) (v : VolunteerIx) (k : Slot) : Part :=
  ((p.tell v .standDown).leaves v k).setIncident k (p.incident k).countTurnedBack

theorem Part.incident_tell (p : Part) (v : VolunteerIx) (m : Message) (k : Slot) :
    (p.tell v m).incident k = p.incident k := by
  rw [Part.incident, Part.tell_engine]
  rfl

theorem Part.incident_leaves (p : Part) (v : VolunteerIx) (k j : Slot) : (p.leaves v k).incident j = p.incident j := rfl

theorem Part.turnBack_eq (p : Part) (v : VolunteerIx) (k : Slot) :
    p.turnBack v k =
      if p.engagement v = .free then p.turnedAway v k else ((p.turnedAway v k).actOnPending v).round := by
  simp only [Part.turnBack, Part.turnedAway, Part.setFree_addDeclined, Part.onIncident_eq, Part.incident_leaves,
    Part.incident_tell]

section
variable {p : Part} {v : VolunteerIx} {k : Slot}

theorem Part.attendAdmit_turnedBack (h : (p.incident k).assignment (p.shadow v).roles = none) (eta : Nat) :
    p.attendAdmit v k eta = p.turnBack v k := by
  simp only [Part.attendAdmit, h]

theorem Part.attendAdmit_admitted {a : Assignment} (h : (p.incident k).assignment (p.shadow v).roles = some a)
    (eta : Nat) :
    p.attendAdmit v k eta =
      (if p.engagement v = .free then (p.enlist v k a eta).alertAgain v k else p.enlist v k a eta).roundIf
        (p.admitFrees v k a eta) := by
  simp only [Part.attendAdmit, h]

theorem Part.takeAttend_offered {g : BitVec 4} (h : p.engagement v = .offered k) (named : p.names k g = true)
    (eta : Nat) : p.takeAttend v eta k g = p.attendAdmit v k eta := by
  simp only [Part.takeAttend, h, named, and_self, if_true]

theorem Part.takeAttend_attending {g : BitVec 4} (h : p.engagement v = .attending k) (named : p.names k g = true)
    (eta : Nat) : p.takeAttend v eta k g = p := by
  simp only [Part.takeAttend, h, named, and_self, if_true]

theorem Part.takeAttend_free {g : BitVec 4} (h : p.engagement v = .free) (named : p.names k g = true)
    (may : p.engine.standing[v].declined[k] = false) (eta : Nat) :
    p.takeAttend v eta k g = p.attendAdmit v k eta := by
  have welcome : (!p.hasDeclined v k) = true := by rw [Part.hasDeclined, may, Bool.not_false]
  simp only [Part.takeAttend, h]
  exact if_pos ⟨named, welcome⟩

/-- A reference that is not the volunteer's own incident is stale, and the volunteer is told again (R136). -/
theorem Part.takeAttend_stale {g : BitVec 4} {x : Slot} (h : p.engagement v = .offered x ∨ p.engagement v = .attending x)
    (other : x ≠ k ∨ ¬p.names k g = true) (eta : Nat) :
    p.takeAttend v eta k g = p.staleKept.tell v (p.alertOf x) := by
  have stale : ¬(x = k ∧ p.names k g = true) := not_and_or.2 other
  obtain h | h := h <;> simp only [Part.takeAttend, h] <;> exact if_neg stale

theorem Part.takeAttend_refused {g : BitVec 4} (h : p.engagement v = .free)
    (other : ¬p.names k g = true ∨ p.engine.standing[v].declined[k] = true) (eta : Nat) :
    p.takeAttend v eta k g = p.staleKept.tell v .standDown := by
  simp only [Part.takeAttend, h]
  refine if_neg fun ⟨named, welcome⟩ => ?_
  rw [Part.hasDeclined, Bool.not_eq_true'] at welcome
  exact other.elim (absurd named) fun declined => absurd declined (by rw [welcome]; decide)

/-! ## DECLINE (R141, R142) -/

/-- A decline of the engagement with slot `x`, once any attendance is removed: stood down, gone from the slot for good,
counted, reported, the pending slot acted on, and a round. -/
def Part.declined (q : Part) (v : VolunteerIx) (x : Slot) : Part :=
  (((((q.tell v .standDown).leaves v x).setIncident x (q.incident x).countDecline).report .declineTaken).actOnPending
    v).round

theorem Part.declineOffer_eq (q : Part) (v : VolunteerIx) (x : Slot) : q.declineOffer v x = q.declined v x := by
  simp only [Part.declineOffer, Part.declined, Part.setFree_addDeclined, Part.onIncident_eq, Part.incident_leaves,
    Part.incident_tell]

theorem Part.declineAttendance_eq (p : Part) (v : VolunteerIx) (x : Slot) :
    p.declineAttendance v x = (p.removeAttendee v x).declined v x := by
  simp only [Part.declineAttendance, Part.declined, p.addDeclined_removeAttendee, Part.onIncident_eq,
    Part.incident_leaves, Part.incident_tell]

theorem Part.takeDecline_offered {g : BitVec 4} (h : p.engagement v = .offered k) (named : p.names k g = true) :
    p.takeDecline v k g = p.declined v k := by
  rw [← Part.declineOffer_eq]
  simp only [Part.takeDecline, h, named, and_self, if_true]

theorem Part.takeDecline_attending {g : BitVec 4} (h : p.engagement v = .attending k) (named : p.names k g = true) :
    p.takeDecline v k g = (p.removeAttendee v k).declined v k := by
  rw [← Part.declineAttendance_eq]
  simp only [Part.takeDecline, h, named, and_self, if_true]

theorem Part.takeDecline_stale {g : BitVec 4} {x : Slot}
    (h : p.engagement v = .offered x ∨ p.engagement v = .attending x) (other : x ≠ k ∨ ¬p.names k g = true) :
    p.takeDecline v k g = p.staleKept.tell v (p.alertOf x) := by
  have stale : ¬(x = k ∧ p.names k g = true) := not_and_or.2 other
  obtain h | h := h <;> simp only [Part.takeDecline, h] <;> exact if_neg stale

theorem Part.takeDecline_free (h : p.engagement v = .free) (g : BitVec 4) : p.takeDecline v k g = p.staleKept := by
  simp only [Part.takeDecline, h]
  rfl

/-! ## AVAIL-OFF and AVAIL-ON (R143) -/

theorem Part.takeAvailOff_offered {x : Slot} (h : p.engagement v = .offered x) :
    p.takeAvailOff v = (p.setHome v false).declined v x := by
  rw [← Part.declineOffer_eq]
  simp only [Part.takeAvailOff, h]

theorem Part.takeAvailOff_other (h : p.engagement v = .free ∨ ∃ x, p.engagement v = .attending x) :
    p.takeAvailOff v = p.setHome v false := by
  obtain h | ⟨x, h⟩ := h <;> simp only [Part.takeAvailOff, h]

theorem Part.takeAvailOn_eq (p : Part) (v : VolunteerIx) :
    p.takeAvailOn v = if p.roster.entries[v].home then p.setHome v true else (p.setHome v true).round := by
  rw [Part.takeAvailOn]
  cases p.roster.entries[v].home <;> rfl

end

/-- Settles O47, press by press: the engagement, then whether the reference names its incident. -/
theorem pressesJudged : Obligations.PressesJudged := by
  unfold Obligations.PressesJudged
  intro p v k g eta i named alert freedBy stood turnedBack declines home declined
  have names : p.names k g = true ↔ named := p.names_iff k g
  have frees (a : Assignment) : p.admitFrees v k a eta = true ↔ freedBy (p.enlist v k a eta) :=
    p.admitFrees_iff v k a eta
  have other {x : Slot} (h : x ≠ k ∨ ¬named) : x ≠ k ∨ ¬p.names k g = true := h.imp_right (mt names.1)
  refine ⟨fun offered reference => ⟨fun a assigned => ?_, fun full => ?_⟩, fun attending reference => ?_,
    fun x engaged strange => ⟨?_, ?_⟩, fun free reference welcome => ⟨fun a assigned => ?_, fun full => ?_⟩,
    fun free strange => ?_, fun offered reference => ?_, fun attending reference => ?_, fun free => ?_,
    fun apart => ?_, fun x offered => ?_, p.takeAvailOn_eq v⟩
  · have engaged : p.engagement v ≠ .free := by rw [offered]; nofun
    intro q
    rw [Part.takeAttend_offered offered (names.2 reference), Part.attendAdmit_admitted assigned, if_neg engaged]
    exact ⟨fun freed => Part.roundIf_true (frees a) freed q, fun kept => Part.roundIf_false (frees a) kept q⟩
  · have engaged : p.engagement v ≠ .free := by rw [offered]; nofun
    rw [Part.takeAttend_offered offered (names.2 reference), Part.attendAdmit_turnedBack full, Part.turnBack_eq,
      if_neg engaged]
    rfl
  · exact Part.takeAttend_attending attending (names.2 reference) eta
  · exact Part.takeAttend_stale engaged (other strange) eta
  · exact Part.takeDecline_stale engaged (other strange)
  · intro q told
    rw [Part.takeAttend_free free (names.2 reference) welcome, Part.attendAdmit_admitted assigned, if_pos free]
    exact ⟨fun freed => Part.roundIf_true (frees a) freed told, fun kept => Part.roundIf_false (frees a) kept told⟩
  · rw [Part.takeAttend_free free (names.2 reference) welcome, Part.attendAdmit_turnedBack full, Part.turnBack_eq,
      if_pos free]
    rfl
  · exact Part.takeAttend_refused free (strange.imp_left (mt names.1)) eta
  · exact Part.takeDecline_offered offered (names.2 reference)
  · exact Part.takeDecline_attending attending (names.2 reference)
  · exact Part.takeDecline_free free g
  · exact Part.takeAvailOff_other apart
  · exact Part.takeAvailOff_offered offered

end Sys2Proof.Machine
end

section
namespace Sys2Proof.Machine

/-! ## The ALERT of an admission (R128, R145) -/

theorem Part.alertOf_eq_of_incident {p q : Part} {k : Slot} (h : q.incident k = p.incident k) :
    q.alertOf k = p.alertOf k := by
  rw [Part.alertOf, Part.alertOf, h]

theorem Part.incident_trim (p : Part) (k t : Slot) : (p.trim k).incident t = p.incident t := by
  have stood : ((p.surplus k).foldl Part.standDownFree p).incident t = p.incident t :=
    foldl_keeps (fun q : Part => q.incident t) Part.standDownFree (fun q v => q.incident_tell v .standDown t) _ _
  rw [Part.trim, Part.incident, Part.actOnPendings_engine]
  exact stood

theorem Part.alertOf_judgeComplete (p : Part) (k : Slot) : (p.judgeComplete k).alertOf k = p.alertOf k := by
  unfold Part.judgeComplete
  split
  · have own : ((p.onIncident k Incident.judgeComplete).report .crewComplete).incident k =
        (p.incident k).judgeComplete := p.setIncident_incident k _
    unfold Part.alertOf
    rw [own]
    obtain ⟨-, -, e⟩ | ⟨-, e⟩ := (p.incident k).judgeComplete_cases <;> rw [e]
  · rfl

/-- The entry of an admission changes nothing that an ALERT carries. -/
theorem Part.alertOf_joined (p : Part) (v : VolunteerIx) (k : Slot) (a : Assignment) (eta : Nat) :
    ((p.joined v k ((p.incident k).enlist { volunteer := v, assignment := a, eta := eta })).report
      .attendTaken).alertOf k = p.alertOf k := by
  have own : ((p.joined v k ((p.incident k).enlist { volunteer := v, assignment := a, eta := eta })).report
      .attendTaken).incident k = (p.incident k).enlist { volunteer := v, assignment := a, eta := eta } :=
    p.setIncident_incident k _
  unfold Part.alertOf
  rw [own]
  cases a <;> rfl

theorem Part.alertOf_enlist (p : Part) (v : VolunteerIx) (k : Slot) (a : Assignment) (eta : Nat) :
    (p.enlist v k a eta).alertOf k = p.alertOf k := by
  cases a with
  | role r =>
    calc (p.enlist v k (.role r) eta).alertOf k
      _ = (p.admitted v k (.role r) eta).alertOf k := Part.alertOf_eq_of_incident (Part.incident_trim _ k k)
      _ = _ := Part.alertOf_judgeComplete _ k
      _ = p.alertOf k := p.alertOf_joined v k (.role r) eta
  | extra => exact p.alertOf_joined v k .extra eta

/-! ## MANUAL-ATTEND (R144, R145) -/

theorem Part.manualAdmit_full {p : Part} {v : VolunteerIx} {k : Slot}
    (h : (p.incident k).assignment (p.shadow v).roles = none) (eta : Nat) :
    p.manualAdmit v k eta = p.refuse .refusedState := by
  simp only [Part.manualAdmit, h]

/-- The admission of a MANUAL-ATTEND, the ALERT after it, and the round where its trim made anyone FREE. -/
theorem Part.manualAdmit_admitted {p : Part} {v : VolunteerIx} {k : Slot} {a : Assignment}
    (h : (p.incident k).assignment (p.shadow v).roles = some a) (eta : Nat) :
    p.manualAdmit v k eta =
      { part := ((p.enlist v k a eta).tell v (p.alertOf k)).roundIf (p.admitFrees v k a eta), code := .done,
        assigned := none } := by
  simp only [Part.manualAdmit, h, Part.alertAgain, p.alertOf_enlist]
  rfl

theorem Part.doManualAttend_stale {p : Part} (h : ∀ k, ¬p.stagingNames k) :
    p.doManualAttend = p.refuse .refusedStale := by
  rw [Part.doManualAttend, Part.stagedIncident_eq_none h]

section
variable {p : Part} {k : Slot} (named : p.stagingNames k)
include named

theorem Part.doManualAttend_unknown
    (h : p.bus.staging.volunteer.toNat = 0 ∨ 240 < p.bus.staging.volunteer.toNat) :
    p.doManualAttend = p.refuse .refusedInvalid := by
  simp only [Part.doManualAttend, (p.stagedIncident_eq_some_iff k).2 named, volunteerOf_eq_none h]

variable {v : VolunteerIx} (own : p.bus.staging.volunteer.toNat = v.val + 1)
include own

theorem Part.doManualAttend_invalid
    (h : (p.shadow v).present = false ∨ p.bus.staging.eta.toNat = 0 ∨ 3 < p.bus.staging.eta.toNat) :
    p.doManualAttend = p.refuse .refusedInvalid := by
  simp only [Part.doManualAttend, (p.stagedIncident_eq_some_iff k).2 named, (volunteerOf_eq_some_iff _ v).2 own,
    ← ite_or, Bool.not_eq_true']
  exact if_pos h

variable
  (valid : ¬((p.shadow v).present = false ∨ p.bus.staging.eta.toNat = 0 ∨ 3 < p.bus.staging.eta.toNat))
include valid

theorem Part.doManualAttend_attending {x : Slot} (h : p.engagement v = .attending x) :
    p.doManualAttend =
      if x = k then { part := p, code := .done, assigned := none } else p.refuse .refusedState := by
  simp only [Part.doManualAttend, (p.stagedIncident_eq_some_iff k).2 named, (volunteerOf_eq_some_iff _ v).2 own,
    ← ite_or, Bool.not_eq_true', h]
  exact if_neg valid

theorem Part.doManualAttend_away (h : ∀ x, p.engagement v ≠ .attending x) :
    p.doManualAttend = p.manualAdmit v k p.bus.staging.eta.toNat := by
  simp only [Part.doManualAttend, (p.stagedIncident_eq_some_iff k).2 named, (volunteerOf_eq_some_iff _ v).2 own,
    ← ite_or, Bool.not_eq_true']
  refine (if_neg valid).trans ?_
  cases engaged : p.engagement v with
  | free => rfl
  | offered x => rfl
  | attending x => exact absurd engaged (h x)

end

theorem exec_manualAttend {s : State} {ln : Lines} {q : Part} {c : ResultCode} (hr : s.part.pins.resetN = true)
    (h : ((s.part.withLines ln).requestKept 5).doManualAttend = { part := q, code := c, assigned := none }) :
    exec (.manualAttend ln) s = .next { s with part := (q.resultKept 5 c none).settle } :=
  s.next_part (Part.writeBoard_request (p := s.part.withLines ln) (code := 5) hr (by decide) h)

/-- Settles O48, by the conditions of R144 in their order. -/
theorem manualAttendJudged : Obligations.ManualAttendJudged := by
  unfold Obligations.ManualAttendJudged
  intro s ln hr p g eta answers
  refine ⟨fun stale => exec_manualAttend hr (Part.doManualAttend_stale stale), fun k named => ?_⟩
  intro i
  have namedHere : p.stagingNames k := named
  refine ⟨fun unknown => exec_manualAttend hr (Part.doManualAttend_unknown namedHere unknown), fun v own => ?_⟩
  intro alert freedBy invalid
  have ownHere : p.bus.staging.volunteer.toNat = v.val + 1 := own
  refine ⟨fun bad => ?_, fun valid x apart attending => ?_, fun valid attending => ?_,
    fun valid away => ⟨fun full => ?_, fun a assigned => ?_⟩⟩
  · exact exec_manualAttend hr (Part.doManualAttend_invalid namedHere ownHere bad)
  · exact exec_manualAttend hr ((Part.doManualAttend_attending namedHere ownHere valid attending).trans (if_neg apart))
  · exact exec_manualAttend hr ((Part.doManualAttend_attending namedHere ownHere valid attending).trans (if_pos rfl))
  · exact exec_manualAttend hr
      ((Part.doManualAttend_away namedHere ownHere valid away).trans (Part.manualAdmit_full (p := p) full _))
  · intro q
    have run : p.doManualAttend =
        { part := (q.tell v alert).roundIf (p.admitFrees v k a eta), code := .done, assigned := none } :=
      (Part.doManualAttend_away namedHere ownHere valid away).trans (Part.manualAdmit_admitted (p := p) assigned _)
    have frees : p.admitFrees v k a eta = true ↔ freedBy q := p.admitFrees_iff v k a eta
    refine ⟨fun freed => exec_manualAttend hr ?_, fun kept => exec_manualAttend hr ?_⟩
    · rw [Part.roundIf_true frees freed] at run
      exact run
    · rw [Part.roundIf_false frees kept] at run
      exact run

end Sys2Proof.Machine
end

section
namespace Sys2Proof.Machine

/-! ## Incidents that qualify for a volunteer (R102, R127) -/

theorem unitOf_eq_some_iff (n : Nat) (u : UnitIx) : unitOf n = some u ↔ n = u.val + 1 := by
  unfold unitOf
  rw [Option.dite_none_right_eq_some]
  constructor
  · rintro ⟨_, e⟩
    have number : n - 1 = u.val := congrArg Fin.val (Option.some.inj e)
    omega
  · rintro rfl
    exact ⟨⟨by omega, by omega⟩, rfl⟩

/-- A volunteer is out of reach while the unit named is SILENT (R130). -/
theorem Part.outOfReach_iff (p : Part) (v : VolunteerIx) :
    p.outOfReach v = true ↔ ∃ u : UnitIx, (p.shadow v).unit = u.val + 1 ∧ p.units[u].link = .silent := by
  simp only [← unitOf_eq_some_iff]
  unfold Part.outOfReach
  cases unitOf (p.shadow v).unit with
  | none => exact iff_of_false nofun fun ⟨u, named, _⟩ => nomatch named
  | some u =>
    rw [decide_eq_true_iff]
    constructor
    · exact fun silent => ⟨u, rfl, silent⟩
    · rintro ⟨_, ⟨⟩, silent⟩
      exact silent

/-- An incident that qualifies for a volunteer with a present record, in the words of R102 and R127. -/
def Part.qualified (p : Part) (v : VolunteerIx) (k : Slot) : Prop :=
  let r := p.shadow v
  let i := p.engine.incidents[k]
  (i.state = .calling ∨ i.state = .short) ∧
    (if r.station = i.station then r.tier ≤ min i.stage 3
     else i.stage = 4 ∧ r.aid = true ∧ p.settings.active.giving.getLsbD r.station = true) ∧
    p.engine.standing[v].declined[k] = false ∧
    ∃ x : RoleIx, r.roles.getLsbD x.val = true ∧ i.tallies[x] < i.quotas[x]

theorem Part.inPopulation_iff {p : Part} {v : VolunteerIx} (present : (p.shadow v).present = true) (k : Slot) :
    p.inPopulation v k = true ↔
      if (p.shadow v).station = (p.incident k).station then (p.shadow v).tier ≤ min (p.incident k).stage 3
      else (p.incident k).stage = 4 ∧ (p.shadow v).aid = true ∧
        p.settings.active.giving.getLsbD (p.shadow v).station = true := by
  unfold Part.inPopulation
  dsimp only
  split
  · rw [present, Bool.true_and, decide_eq_true_iff]
  · rw [present, Bool.and_true, Bool.and_eq_true, Bool.and_eq_true, decide_eq_true_iff, and_assoc]

theorem Incident.needs_iff (i : Incident) (roles : BitVec 6) :
    i.needs roles = true ↔ ∃ r : RoleIx, roles.getLsbD r.val = true ∧ i.tallies[r] < i.quotas[r] := by
  rw [← Bool.not_eq_false, i.needs_eq_false_iff, not_forall]
  exact exists_congr fun r => by rw [Classical.not_imp, Nat.not_le]

theorem Part.qualifies_iff {p : Part} {v : VolunteerIx} (present : (p.shadow v).present = true) (k : Slot) :
    p.qualifies v k = true ↔ p.qualified v k := by
  rw [Part.qualifies, Bool.and_eq_true, Bool.and_eq_true, Bool.and_eq_true, and_assoc, and_assoc, Incident.served_iff,
    Part.inPopulation_iff present, Bool.not_eq_true', Incident.needs_iff]
  rfl

/-- The age order lists the slots that are not FREE, each of priority 1 to 3: what makes the qualifying incidents a
ranking. -/
def Part.ranked (p : Part) : Prop :=
  p.engine.ageLaw ∧ ∀ k : Slot, p.engine.incidents[k].state ≠ .free →
    1 ≤ p.engine.incidents[k].priority ∧ p.engine.incidents[k].priority ≤ 3

theorem Part.open_of_qualifies {p : Part} {v : VolunteerIx} {k : Slot} (h : p.qualifies v k = true) :
    (p.incident k).state ≠ .free := by
  simp only [Part.qualifies, Bool.and_eq_true, Incident.served_iff] at h
  obtain ⟨⟨⟨calling | short, -⟩, -⟩, -⟩ := h
  · rw [calling]; nofun
  · rw [short]; nofun

/-! ## The ranking of the qualifying incidents (R127) -/

section
variable {p : Part} (ranked : p.ranked) {v : VolunteerIx}
include ranked

theorem Part.ranked.priority {k : Slot} (h : p.qualifies v k = true) : (p.incident k).priority ∈ [1, 2, 3] := by
  have bounds : 1 ≤ (p.incident k).priority ∧ (p.incident k).priority ≤ 3 := ranked.2 k (Part.open_of_qualifies h)
  simp only [List.mem_cons, List.not_mem_nil, or_false]
  omega

theorem Part.ranked.mem_qualifying (k : Slot) : k ∈ p.qualifying v ↔ p.qualifies v k = true := by
  simp only [Part.qualifying, List.mem_flatMap, List.mem_filter, Bool.and_eq_true, beq_iff_eq]
  constructor
  · rintro ⟨_, -, -, qualifies, -⟩
    exact qualifies
  · intro qualifies
    exact ⟨_, ranked.priority qualifies, (ranked.1.2 k).2 (Part.open_of_qualifies qualifies), qualifies, rfl⟩

theorem Part.ranked.nodup_qualifying : (p.qualifying v).Nodup := by
  refine List.nodup_flatMap.2 ⟨fun n _ => ranked.1.1.filter _, ?_⟩
  have apart : [1, 2, 3].Pairwise (· ≠ ·) := by decide
  refine apart.imp fun {m n} differ k hm hn => differ ?_
  simp only [List.mem_filter, Bool.and_eq_true, beq_iff_eq] at hm hn
  exact hm.2.2.symm.trans hn.2.2

/-- The winner is the oldest incident of the first priority that any qualifying incident has. -/
theorem Part.ranked.winner_eq_some {k : Slot} {before after : List Slot} (listed : p.engine.age = before ++ k :: after)
    (qualifies : p.qualifies v k = true)
    (older : ∀ j ∈ before, p.qualifies v j = true → (p.incident k).priority < (p.incident j).priority)
    (younger : ∀ j ∈ after, p.qualifies v j = true → (p.incident k).priority ≤ (p.incident j).priority) :
    p.winner v = some k := by
  obtain ⟨lower, rest, priorities⟩ := List.append_of_mem (ranked.priority qualifies)
  have ascending : [1, 2, 3].Pairwise (· < ·) := by decide
  rw [priorities, List.pairwise_append] at ascending
  have first {j : Slot} (hj : p.qualifies v j = true) : (p.incident k).priority ≤ (p.incident j).priority := by
    have member : j ∈ p.engine.age := (ranked.1.2 j).2 (Part.open_of_qualifies hj)
    rw [listed, List.mem_append, List.mem_cons] at member
    obtain hb | rfl | ha := member
    · exact (older j hb hj).le
    · exact le_rfl
    · exact younger j ha hj
  rw [Part.winner, Part.qualifying, List.head?_flatMap, List.findSome?_eq_some_iff]
  refine ⟨lower, _, rest, priorities, ?_, fun n hn => ?_⟩
  · rw [List.head?_filter, List.find?_eq_some_iff_append]
    refine ⟨?_, before, after, listed, fun j hj => ?_⟩
    · rw [qualifies, beq_self_eq_true, Bool.and_self]
    · rw [Bool.not_eq_true', Bool.and_eq_false_imp]
      exact fun hq => beq_false_of_ne (older j hj hq).ne'
  · rw [List.head?_filter, List.find?_eq_none]
    intro j _ found
    rw [Bool.and_eq_true, beq_iff_eq] at found
    have above : n < (p.incident k).priority := ascending.2.2 n hn _ List.mem_cons_self
    exact absurd (first found.1) (not_le.2 (found.2 ▸ above))

theorem Part.ranked.winner_qualifies {k : Slot} (h : p.winner v = some k) : p.qualifies v k = true :=
  (ranked.mem_qualifying k).1 (List.mem_of_head? h)

theorem Part.ranked.winner_eq_none (h : ∀ k, ¬p.qualifies v k = true) : p.winner v = none := by
  rw [Part.winner, List.head?_eq_none_iff, List.eq_nil_iff_forall_not_mem]
  exact fun k hk => h k ((ranked.mem_qualifying k).1 hk)

end

/-! ## Volunteers counted out of reach (R130) -/

theorem Part.countOutOfReach_frame (slots : List Slot) (p : Part) :
    p.countOutOfReach slots =
      { p with engine := { p.engine with incidents := (p.countOutOfReach slots).engine.incidents } } := by
  induction slots generalizing p with
  | nil => rfl
  | cons s slots ih => exact ih (p.onIncident s Incident.countUnreachable)

theorem Part.incident_countOutOfReach (slots : List Slot) (once : slots.Nodup) (p : Part) (k : Slot) :
    (p.countOutOfReach slots).incident k = if k ∈ slots then (p.incident k).countUnreachable else p.incident k := by
  induction slots generalizing p with
  | nil => rfl
  | cons s slots ih =>
    obtain ⟨apart, once⟩ := List.nodup_cons.1 once
    have tail : p.countOutOfReach (s :: slots) = (p.onIncident s Incident.countUnreachable).countOutOfReach slots := rfl
    rw [tail, ih once, Part.incident_onIncident]
    by_cases own : k = s
    · subst own
      rw [if_neg apart, if_pos rfl, if_pos List.mem_cons_self]
    · simp only [own, List.mem_cons, false_or, if_false]

/-- `q` is `p` with the volunteer counted out of reach in the incidents that `c` picks. -/
def Part.counted (p q : Part) (c : Slot → Prop) : Prop :=
  q = { p with engine := { p.engine with incidents := q.engine.incidents } } ∧
    ∀ k : Slot, (c k → q.engine.incidents[k] =
        { p.engine.incidents[k] with unreachable := p.engine.incidents[k].unreachable + 1 }) ∧
      (¬c k → q.engine.incidents[k] = p.engine.incidents[k])

theorem Part.counted_countOutOfReach (p : Part) {slots : List Slot} (once : slots.Nodup) {c : Slot → Prop}
    (listed : ∀ k, k ∈ slots ↔ c k) : p.counted (p.countOutOfReach slots) c := by
  refine ⟨p.countOutOfReach_frame slots, fun k => ?_⟩
  have counted := Part.incident_countOutOfReach slots once p k
  exact ⟨fun picked => counted.trans (if_pos ((listed k).2 picked)),
    fun other => counted.trans (if_neg (mt (listed k).1 other))⟩

/-! ## The round's work on one volunteer (R127 to R130) -/

theorem Part.round_eq (p : Part) :
    p.round = (List.finRange 240).foldl Part.judgeVolunteer
      { p with engine := { p.engine with
          incidents := p.engine.incidents.map fun i => { i with unreachable := 0 } } } := rfl

section
variable {p : Part} {v : VolunteerIx}

theorem Part.judgeVolunteer_passed (h : ¬p.callable v = true ∨ ∃ k, p.engagement v = .attending k) :
    p.judgeVolunteer v = p := by
  unfold Part.judgeVolunteer
  obtain h | ⟨k, h⟩ := h
  · exact if_neg h
  · simp only [h, ite_self]

variable (callable : p.callable v = true)
include callable

theorem Part.judgeVolunteer_free_silent (h : p.engagement v = .free) (silent : p.outOfReach v = true) :
    p.judgeVolunteer v = p.countOutOfReach (p.qualifying v) := by
  simp only [Part.judgeVolunteer, callable, h, silent, if_true]

theorem Part.judgeVolunteer_free_offer (h : p.engagement v = .free) (reached : ¬p.outOfReach v = true) {k : Slot}
    (won : p.winner v = some k) : p.judgeVolunteer v = p.offer v k := by
  simp only [Part.judgeVolunteer, callable, h, if_neg reached, won, if_true]

theorem Part.judgeVolunteer_free_none (h : p.engagement v = .free) (reached : ¬p.outOfReach v = true)
    (won : p.winner v = none) : p.judgeVolunteer v = p := by
  simp only [Part.judgeVolunteer, callable, h, if_neg reached, won, if_true]

variable {t : Slot} (offered : p.engagement v = .offered t)
include offered

theorem Part.judgeVolunteer_offered_silent (silent : p.outOfReach v = true) :
    p.judgeVolunteer v = p.countOutOfReach
      ((p.qualifying v).filter fun k => decide ((p.incident k).priority < (p.incident t).priority)) := by
  simp only [Part.judgeVolunteer, callable, offered, silent, if_true]

theorem Part.judgeVolunteer_offered_move (reached : ¬p.outOfReach v = true) {k : Slot} (won : p.winner v = some k)
    (higher : (p.incident k).priority < (p.incident t).priority) : p.judgeVolunteer v = p.offer v k := by
  simp only [Part.judgeVolunteer, callable, offered, if_neg reached, won, decide_eq_true higher, if_true]

/-- An offer stands where the winner, if any, is of no higher priority. -/
theorem Part.judgeVolunteer_offered_stays (reached : ¬p.outOfReach v = true)
    (stays : ∀ k, p.winner v = some k → (p.incident t).priority ≤ (p.incident k).priority) :
    p.judgeVolunteer v = p := by
  simp only [Part.judgeVolunteer, callable, offered, if_neg reached, if_true]
  cases won : p.winner v with
  | none => rfl
  | some k => exact if_neg (by rw [decide_eq_true_iff, Nat.not_lt]; exact stays k won)

end

/-- Settles O50, by the volunteer's engagement, the unit's link state, and the winner. -/
theorem roundJudges : Obligations.RoundJudges := by
  unfold Obligations.RoundJudges
  refine ⟨Part.round_eq, fun p v => ?_⟩
  intro r seated callable silent qualifies priority wins offered counted ranked
  have calls : p.callable v = true ↔ callable := p.callable_iff v
  have reach : p.outOfReach v = true ↔ silent := p.outOfReach_iff v
  have qualify (may : callable) (k : Slot) : p.qualifies v k = true ↔ qualifies k := Part.qualifies_iff may.1 k
  have won (may : callable) (rank : ranked) {k : Slot} : wins k → p.winner v = some k := by
    rintro ⟨before, after, listed, own, older, younger⟩
    exact Part.ranked.winner_eq_some rank listed ((qualify may k).2 own)
      (fun j hj hq => older j hj ((qualify may j).1 hq)) fun j hj hq => younger j hj ((qualify may j).1 hq)
  refine ⟨fun h => Part.judgeVolunteer_passed (h.imp_left (mt calls.1)),
    fun may rank free => ⟨fun far => ?_, fun near k win => ?_, fun near unserved => ?_⟩,
    fun t may rank engaged => ⟨fun far => ?_, fun near k win higher => ?_, fun near lower => ?_⟩⟩
  · rw [Part.judgeVolunteer_free_silent (calls.2 may) free (reach.2 far)]
    exact p.counted_countOutOfReach (Part.ranked.nodup_qualifying rank) fun k =>
      (Part.ranked.mem_qualifying rank k).trans (qualify may k)
  · exact Part.judgeVolunteer_free_offer (calls.2 may) free (mt reach.1 near) (won may rank win)
  · exact Part.judgeVolunteer_free_none (calls.2 may) free (mt reach.1 near)
      (Part.ranked.winner_eq_none rank fun k => mt (qualify may k).1 (unserved k))
  · rw [Part.judgeVolunteer_offered_silent (calls.2 may) engaged (reach.2 far)]
    refine p.counted_countOutOfReach ((Part.ranked.nodup_qualifying rank).filter _) fun k => ?_
    rw [List.mem_filter, Part.ranked.mem_qualifying rank, qualify may, decide_eq_true_iff]
    rfl
  · exact Part.judgeVolunteer_offered_move (calls.2 may) engaged (mt reach.1 near) (won may rank win) higher
  · exact Part.judgeVolunteer_offered_stays (calls.2 may) engaged (mt reach.1 near) fun k hk =>
      lower k ((qualify may k).1 (Part.ranked.winner_qualifies rank hk))

end Sys2Proof.Machine
end

/-! # Notification: the proof of the statement about reports, clears, enable writes, the re-pulse timer and the lines -/

section
namespace Sys2Proof.Machine

/-! ## The two lines (R152) -/

theorem Notify.line_onLine_same (n : Notify) (l : NoteLine) (f : NoteUnit → NoteUnit) :
    (n.onLine l f).line l = f (n.line l) := by
  cases l <;> rfl

/-- The other line is as it was. -/
theorem Notify.line_onLine_other (n : Notify) (l : NoteLine) (f : NoteUnit → NoteUnit) (m : NoteLine) (h : m ≠ l) :
    (n.onLine l f).line m = n.line m :=
  match l, m with
  | .a, .b | .b, .a => rfl
  | .a, .a | .b, .b => absurd rfl h

/-- What a line becomes is fixed by what it was. -/
theorem Notify.onLine_eq (n : Notify) (l : NoteLine) (f : NoteUnit → NoteUnit) :
    n.onLine l f = n.onLine l fun _ => f (n.line l) := by
  cases l <;> rfl

theorem Notify.onLine_self (n : Notify) (l : NoteLine) : (n.onLine l fun _ => n.line l) = n := by
  cases l <;> rfl

/-- A byte has a bit set unless it is 0. -/
theorem Byte.ne_zero_iff (b : Byte) : b ≠ 0 ↔ ∃ i < 8, b.getLsbD i = true := by
  constructor
  · intro nonzero
    by_contra unset
    simp only [not_exists, not_and, Bool.not_eq_true] at unset
    exact nonzero (BitVec.eq_of_getLsbD_eq fun i hi => by rw [unset i hi]; exact BitVec.getLsbD_zero.symm)
  · rintro ⟨i, -, set⟩ rfl
    rw [BitVec.ofNat_eq_ofNat, BitVec.getLsbD_zero] at set
    cases set

/-- A line is driven low: RESET-N is high, a latch is set, and no re-pulse interval runs (R16, R152). -/
theorem Part.noteActive_iff (p : Part) (l : NoteLine) :
    p.noteActive l = true ↔ p.pins.resetN = true ∧
      (∃ bit < 8, (p.notify.line l).status.getLsbD bit = true) ∧ (p.notify.line l).repulse = false := by
  rw [← Byte.ne_zero_iff]
  simp only [Part.noteActive, NoteUnit.active, Bool.and_eq_true, decide_eq_true_iff, Bool.not_eq_true']

/-! ## Reports (R150, 8.1) -/

/-- The table gives each source its line and its bit. -/
theorem sourceTable_line_bit {x : Source} {l : NoteLine} {bit : Nat} (h : (x, l, bit) ∈ sourceTable) :
    x.line = l ∧ x.bit.val = bit :=
  have rows : ∀ e ∈ sourceTable, e.1.line = e.2.1 ∧ e.1.bit.val = e.2.2 := by decide
  rows _ h

/-- An event sets its latch where the enable is set, and is lost otherwise. -/
theorem NoteUnit.latch_eq (n : NoteUnit) (i : Fin 8) :
    n.latch i = { n with status := if n.enables.getLsbD i then n.status ||| (1#8 <<< i.val) else n.status } := by
  have reaches : n.enables &&& bitMask i = if n.enables.getLsbD i then 1#8 <<< i.val else 0#8 :=
    BitVec.and_twoPow _ _
  rw [NoteUnit.latch, reaches]
  split
  · rfl
  · rw [BitVec.or_zero]

theorem Part.report_eq (p : Part) {x : Source} {l : NoteLine} {bit : Nat} (h : (x, l, bit) ∈ sourceTable) :
    p.report x = { p with notify := p.notify.onLine l fun _ =>
      { p.notify.line l with
        status := if (p.notify.line l).enables.getLsbD bit then (p.notify.line l).status ||| (1#8 <<< bit)
                  else (p.notify.line l).status } } := by
  obtain ⟨rfl, rfl⟩ := sourceTable_line_bit h
  rw [← NoteUnit.latch_eq]
  exact congrArg (fun n => { p with notify := n }) (p.notify.onLine_eq x.line _)

/-! ## Clears and enable writes (R90, R151, R153, R154) -/

/-- The status word of a line takes a clear, its enable word the enables. -/
theorem Part.takeBoardWord_status (p : Part) (l : NoteLine) (w : Word) :
    p.takeBoardWord (statusPlace l) w = p.clearNotes l w := by
  cases l <;> rfl

theorem Part.takeBoardWord_enable (p : Part) (l : NoteLine) (w : Word) :
    p.takeBoardWord (enablePlace l) w = p.enableNotes l w := by
  cases l <;> rfl

theorem exec_notifyClear (s : State) (l : NoteLine) (w : Word) (ln : Lines) (hr : s.part.pins.resetN = true) :
    exec (.notifyClear l w ln) s = .next { s with part := (s.part.withLines ln).withheld.clearNotes l w } := by
  have place : statusPlace l < 4096 := by cases l <;> decide
  rw [← Part.takeBoardWord_status]
  exact s.next_part ((s.part.withLines ln).writeBoard_take _ w place hr)

theorem exec_notifyEnableWrite (s : State) (l : NoteLine) (w : Word) (hr : s.part.pins.resetN = true) :
    exec (.notifyEnableWrite l w) s = .next { s with part := s.part.withheld.enableNotes l w } := by
  have place : enablePlace l < 4096 := by cases l <;> decide
  rw [← Part.takeBoardWord_enable]
  exact s.next_part (s.part.writeBoard_take _ w place hr)

/-- The part once the latches of a line are cleared; no hold has ended yet. -/
def Part.latchesCleared (p : Part) (l : NoteLine) (w : Word) : Part :=
  p.onNotify fun n => n.onLine l fun u => u.clear (lowByte w)

/-- A clear of no latch does nothing; one that leaves a latch set begins a re-pulse interval. -/
theorem NoteUnit.clear_eq (n : NoteUnit) (w : Byte) :
    n.clear w = if n.status &&& w = 0 then n
      else { n with status := n.status &&& ~~~w
                    repulse := if n.status &&& ~~~w = 0 then n.repulse else true } := by
  rw [NoteUnit.clear]
  split
  · rfl
  · split <;> rfl

theorem Part.latchesCleared_eq (p : Part) (l : NoteLine) (w : Word) :
    p.latchesCleared l w =
      if (p.notify.line l).status &&& w.setWidth 8 = 0 then p
      else { p with notify := p.notify.onLine l fun _ =>
        { p.notify.line l with
          status := (p.notify.line l).status &&& ~~~(w.setWidth 8)
          repulse := if (p.notify.line l).status &&& ~~~(w.setWidth 8) = 0 then (p.notify.line l).repulse
                     else true } } := by
  have cleared : p.latchesCleared l w =
      { p with notify := p.notify.onLine l fun _ => (p.notify.line l).clear (w.setWidth 8) } :=
    congrArg (fun n => { p with notify := n }) (p.notify.onLine_eq l _)
  rw [cleared, NoteUnit.clear_eq]
  split
  · rw [Notify.onLine_self]
  · rfl

/-- CHANGE-CYCLE is bit 3 of line B (8.1). -/
theorem Part.clearsChangeCycle_iff (p : Part) (l : NoteLine) (w : Word) :
    p.clearsChangeCycle l w = true ↔
      l = .b ∧ w.getLsbD 3 = true ∧ p.notify.b.status.getLsbD 3 = true := by
  cases l with
  | a => exact ⟨nofun, nofun⟩
  | b => simp [Part.clearsChangeCycle, Source.line, Source.bit, Notify.line]

/-- A clear of CHANGE-CYCLE ends a hold, and the attempt follows the clear's own work (R90; log 9). -/
theorem Part.clearNotes_endsHold (p : Part) (l : NoteLine) (w : Word) (h : p.clearsChangeCycle l w = true) :
    p.clearNotes l w = (p.latchesCleared l w).endHold.settle :=
  congrArg Part.settle (if_pos h)

/-- Any other clear leaves a hold standing, and nothing follows it. -/
theorem Part.clearNotes_holdStands (p : Part) (l : NoteLine) (w : Word) (h : ¬p.clearsChangeCycle l w = true)
    (stands : p.holdStands) : p.clearNotes l w = p.latchesCleared l w :=
  (congrArg Part.settle (if_neg h)).trans ((p.latchesCleared l w).settle_of_holdStands stands)

/-- Settles O51: a report by the source's row of the table, a clear by whether it clears CHANGE-CYCLE. -/
theorem notifyLines : Obligations.NotifyLines := by
  unfold Obligations.NotifyLines
  refine ⟨fun p x l bit h => p.report_eq h, fun s l w ln hr stands => ?_,
    fun s l w hr => exec_notifyEnableWrite s l w hr, fun s l => rfl,
    fun n l f => ⟨n.line_onLine_same l f, n.line_onLine_other l f⟩, Part.noteActive_iff⟩
  intro p n byte cleared q endsHold
  have work : p.latchesCleared l w = q := p.latchesCleared_eq l w
  have ends : p.clearsChangeCycle l w = true ↔ endsHold := p.clearsChangeCycle_iff l w
  rw [exec_notifyClear s l w ln hr, ← work]
  exact ⟨fun h => s.next_part (p.clearNotes_endsHold l w (ends.2 h)),
    fun h => s.next_part (p.clearNotes_holdStands l w (mt ends.1 h) stands)⟩

end Sys2Proof.Machine
end

/-! # How a link test begins: the proof of the statement about the enables judged, the waits and the burst keyed -/

section
namespace Sys2Proof.Machine

/-! ## The PRBS sequence (R166) -/

/-- The generator once one more bit is sent. -/
def prbsStep (reg : BitVec 7) : BitVec 7 := prbsShift reg (prbsNext reg)

/-- Bit `n` of the generator's sequence, oldest first: the seven bits it holds, then those it sends. -/
def prbsStream (reg : BitVec 7) (n : Nat) : Bool := (prbsStep^[n] reg).getLsbD 6

theorem prbsStream_iterate (reg : BitVec 7) (m n : Nat) : prbsStream (prbsStep^[m] reg) n = prbsStream reg (m + n) := by
  rw [prbsStream, prbsStream, Nat.add_comm, Function.iterate_add_apply]

/-- After `n` bits the generator holds the seven from bit `n` on, the most recent in bit 0. -/
theorem prbsStep_iterate_getLsbD (reg : BitVec 7) (n t : Nat) (ht : t < 7) :
    (prbsStep^[n] reg).getLsbD (6 - t) = prbsStream reg (n + t) := by
  induction t generalizing n with
  | zero => rfl
  | succ t ih =>
    have later := ih (n + 1) (by omega)
    rw [Function.iterate_succ_apply', prbsStep, prbsShift_getLsbD _ _ _ (by omega), if_neg (by omega)] at later
    rw [← Nat.sub_sub, later, Nat.add_right_comm, Nat.add_assoc]

/-- The next bit sent is bit 7, the seven before it being held. -/
theorem prbsNext_eq_prbsStream (reg : BitVec 7) : prbsNext reg = prbsStream reg 7 := by
  have sent : (prbsStep reg).getLsbD 0 = prbsStream reg 7 := prbsStep_iterate_getLsbD reg 1 6 (by decide)
  rwa [prbsStep, prbsShift_getLsbD _ _ _ (by decide), if_pos rfl] at sent

/-- Each bit sent is the exclusive-or of those six and seven places before it (R166). -/
theorem prbsStream_recurrence (reg : BitVec 7) (n : Nat) :
    prbsStream reg (n + 7) = (prbsStream reg (n + 1) ^^ prbsStream reg n) := by
  rw [← prbsStream_iterate, ← prbsNext_eq_prbsStream, prbsNext]
  exact congrArg₂ _ (prbsStep_iterate_getLsbD reg n 1 (by decide)) (prbsStep_iterate_getLsbD reg n 0 (by decide))

/-! ## The words of a PRBS burst (R166) -/

/-- A word with a bit shifted in below. -/
theorem word_shiftIn_getLsbD (w : Word) (b : Bool) (i : Nat) (hi : i < 16) :
    ((w <<< 1) ||| (BitVec.ofBool b).setWidth 16).getLsbD i = if i = 0 then b else w.getLsbD (i - 1) := by
  cases i with
  | zero => cases b <;> simp
  | succ i => cases b <;> simp [hi, Nat.lt_of_succ_lt hi]

/-- One bit sent, then the rest. -/
theorem prbsBits_succ (n : Nat) (w : Word) (reg : BitVec 7) :
    prbsBits (n + 1) w reg =
      prbsBits n ((w <<< 1) ||| (BitVec.ofBool (prbsStream reg 7)).setWidth 16) (prbsStep reg) := by
  rw [← prbsNext_eq_prbsStream]
  rfl

theorem prbsBits_register (n : Nat) (w : Word) (reg : BitVec 7) : (prbsBits n w reg).2 = prbsStep^[n] reg := by
  induction n generalizing w reg with
  | zero => rfl
  | succ n ih => rw [prbsBits_succ, ih, Function.iterate_succ_apply]

/-- A word of generator bits: the last `n` sent, the most recent in bit 0, above them what the word held. -/
theorem prbsBits_getLsbD (n : Nat) (w : Word) (reg : BitVec 7) (i : Nat) (hi : i < 16) :
    (prbsBits n w reg).1.getLsbD i = if i < n then prbsStream reg (n + 6 - i) else w.getLsbD (i - n) := by
  induction n generalizing w reg with
  | zero => rfl
  | succ n ih =>
    rw [prbsBits_succ, ih, word_shiftIn_getLsbD _ _ _ (by omega), ← Function.iterate_one prbsStep, prbsStream_iterate]
    obtain less | rfl | more := Nat.lt_trichotomy i n
    · rw [if_pos less, if_pos (by omega)]
      congr 1
      omega
    · rw [if_neg (by omega), if_pos (by omega), if_pos (by omega)]
      congr 1
      omega
    · rw [if_neg (by omega), if_neg (by omega), if_neg (by omega), Nat.sub_sub]

/-- One word of sixteen bits sent, then the rest. -/
theorem prbsWords_succ (n : Nat) (reg : BitVec 7) :
    prbsWords (n + 1) reg =
      ((prbsBits 16 0 reg).1 :: (prbsWords n (prbsStep^[16] reg)).1, (prbsWords n (prbsStep^[16] reg)).2) := by
  rw [← prbsBits_register 16 0 reg, prbsWords]

theorem prbsWords_length (n : Nat) (reg : BitVec 7) : (prbsWords n reg).1.length = n := by
  induction n generalizing reg with
  | zero => rfl
  | succ n ih => rw [prbsWords_succ, List.length_cons, ih]

theorem prbsWords_register (n : Nat) (reg : BitVec 7) : (prbsWords n reg).2 = prbsStep^[16 * n] reg := by
  induction n generalizing reg with
  | zero => rfl
  | succ n ih => rw [prbsWords_succ, ih, ← Function.iterate_add_apply, Nat.mul_succ]

/-- The words carry the sequence from bit 7 on, each most significant bit first. -/
theorem prbsWords_getLsbD (n : Nat) (reg : BitVec 7) (k i : Nat) (hk : k < n) (hi : i < 16) :
    ((prbsWords n reg).1[k]?.getD 0).getLsbD (15 - i) = prbsStream reg (16 * k + i + 7) := by
  induction n generalizing k reg with
  | zero => omega
  | succ n ih =>
    cases k with
    | zero =>
      rw [prbsWords_succ, List.getElem?_cons_zero, Option.getD_some, prbsBits_getLsbD _ _ _ _ (by omega),
        if_pos (by omega)]
      congr 1
      omega
    | succ k =>
      rw [prbsWords_succ, List.getElem?_cons_succ, ih _ k (by omega), prbsStream_iterate]
      congr 1
      omega

/-- Bit `n` on the air, the seven that the generator held counted first: those, then the bits of the words sent. -/
def burstBit (reg : BitVec 7) (words : List Word) (n : Nat) : Bool :=
  if n < 7 then reg.getLsbD (6 - n) else (words[(n - 7) / 16]?.getD 0).getLsbD (15 - (n - 7) % 16)

/-- The bits of a burst continue the generator's sequence. -/
theorem burstBit_prbsWords (m : Nat) (reg : BitVec 7) (n : Nat) (hn : n < 16 * m + 7) :
    burstBit reg (prbsWords m reg).1 n = prbsStream reg n := by
  unfold burstBit
  split
  · next held =>
    have bit := prbsStep_iterate_getLsbD reg 0 n held
    rwa [Nat.zero_add] at bit
  · next sent =>
    rw [prbsWords_getLsbD m reg _ _ (by omega) (by omega)]
    congr 1
    omega

/-! ## The burst keyed (R164, R166) -/

/-- A pattern burst: eight times the sixteen pattern words, a lead-in before each marked one. -/
theorem patternBurst_eq (l : LinkSettings) :
    patternBurst l = (List.replicate 8 ((List.finRange 16).map fun i =>
      if l.patternMarks.getLsbD i.val then [(0x7E81 : Word), l.patternWords[i]]
      else [l.patternWords[i]]).flatten).flatten := by
  rw [patternBurst, patternPlaces, List.map_flatten, List.map_replicate, patternRepetition, List.map_flatMap,
    List.flatMap_def]
  congr 4
  funext i
  split <;> rfl

theorem Part.keyBurst_pattern {p : Part} (h : p.check.kind = some .pattern) :
    p.keyBurst = p.withCheck { p.check with test := .sending (patternBurst p.settings.active.link) } := by
  rw [Part.keyBurst, h]
  rfl

/-- The words of a PRBS burst follow its lead-in, and the generator goes on from their last bit (log 12). -/
theorem Part.keyBurst_prbs {p : Part} (h : p.check.kind = some .prbs) :
    p.keyBurst = p.withCheck { p.check with
      test := .sending (0x7E81 :: (prbsWords 8 p.check.generator).1)
      generator := (prbsWords 8 p.check.generator).2 } := by
  rw [Part.keyBurst, h]
  rfl

/-- The eight words of a burst obey the generator's recurrence, and it is left holding the last seven bits sent. -/
theorem prbsWords_continue (reg : BitVec 7) :
    (∀ n < 128, burstBit reg (prbsWords 8 reg).1 (n + 7) =
      (burstBit reg (prbsWords 8 reg).1 (n + 1) ^^ burstBit reg (prbsWords 8 reg).1 n)) ∧
    ∀ n < 7, (prbsWords 8 reg).2.getLsbD n = burstBit reg (prbsWords 8 reg).1 (134 - n) := by
  refine ⟨fun n hn => ?_, fun n hn => ?_⟩
  · rw [burstBit_prbsWords 8 reg (n + 7) (by omega), burstBit_prbsWords 8 reg (n + 1) (by omega),
      burstBit_prbsWords 8 reg n (by omega), prbsStream_recurrence]
  · have held := prbsStep_iterate_getLsbD reg (16 * 8) (6 - n) (by omega)
    rw [Nat.sub_sub_self (by omega)] at held
    rw [prbsWords_register, held, burstBit_prbsWords 8 reg _ (by omega)]
    congr 1
    omega

/-! ## A burst begun (R163) -/

/-- A failed ready check: an episode that stood already is neither counted nor latched again. -/
theorem Part.beginBurst_failed {p : Part} (h : ¬p.readyNow = true) :
    p.beginBurst =
      let failed := p.withCheck { p.check with test := .retryWait, episode := true }
      if p.check.episode then failed else failed.countNotReady := by
  rw [Part.beginBurst, if_neg h]
  rfl

/-- A passed ready check ends the episode and goes on to the carrier. -/
theorem Part.beginBurst_passed {p : Part} (h : p.readyNow = true) :
    p.beginBurst =
      if p.channelBusy then
        p.withCheck { p.check with test := .channelWait p.settings.active.link.lbtLimit, episode := false }
      else (p.withCheck { p.check with episode := false }).keyBurst := by
  rw [Part.beginBurst, if_pos h]
  rfl

/-! ## The enables judged (R162, R168) -/

theorem Part.judgeTests_inFlight {p : Part} (h : p.check.test.inFlight = true) : p.judgeTests = p := by
  rw [Part.judgeTests, if_pos h]

theorem Part.judgeTests_none {p : Part} (h : p.check.test.inFlight = false)
    (given : p.settings.active.tests.given = none) :
    p.judgeTests = if p.check.test = .idle then p else p.endTest := by
  rw [Part.judgeTests, if_neg (Bool.eq_false_iff.1 h), given]

theorem Part.judgeTests_given {p : Part} {k : TestKind} (h : p.check.test.inFlight = false)
    (given : p.settings.active.tests.given = some k) :
    p.judgeTests = if p.check.test ≠ .idle ∧ p.check.kind = some k then p else p.beginTest k := by
  rw [Part.judgeTests, if_neg (Bool.eq_false_iff.1 h), given]

/-! ## The waits' ends (R163) -/

theorem Part.testRetryExpires_waiting {p : Part} (h : p.check.test = .retryWait) :
    p.testRetryExpires = p.beginBurst := by
  rw [Part.testRetryExpires, h]

theorem Part.testCarrierFalls_waiting {p : Part} {limit : Nat} (h : p.check.test = .channelWait limit) :
    p.testCarrierFalls = Part.keyBurst { p with pins := { p.pins with cd := false } } := by
  rw [Part.testCarrierFalls, h]
  rfl

theorem Part.testLbtExpires_waiting {p : Part} {limit : Nat} (h : p.check.test = .channelWait limit) :
    p.testLbtExpires = p.countForced.keyBurst := by
  rw [Part.testLbtExpires, h]

/-- Settles O52: the enables by the test they give, a burst by the ready check and the carrier, its keying by the kind
of test, and each wait by its end. -/
theorem testBurstsBegin : Obligations.TestBurstsBegin := by
  unfold Obligations.TestBurstsBegin
  refine ⟨fun p => ⟨Part.judgeTests_inFlight, fun out same => ?_, fun k out given => ?_⟩, fun p => ?_,
    fun s ln => ⟨fun wait => ?_, fun limit wait => ⟨?_, ?_⟩⟩⟩
  · exact Part.judgeTests_none out (TestEnables.given_none same)
  · exact Part.judgeTests_given out (TestEnables.given_some given)
  · intro l ready busy check
    have passes : p.readyNow = true ↔ ready := p.readyNow_iff
    have carrier : p.channelBusy = true ↔ busy := p.channelBusy_iff
    refine ⟨fun fails => ?_, fun right taken => ?_, fun right clear => ?_, fun pattern => ?_, fun prbs => ?_⟩
    · exact Part.beginBurst_failed (mt passes.1 fails)
    · rw [Part.beginBurst_passed (passes.2 right), if_pos (carrier.2 taken)]
      rfl
    · rw [Part.beginBurst_passed (passes.2 right), if_neg (mt carrier.1 clear)]
      rfl
    · rw [← patternBurst_eq]
      exact Part.keyBurst_pattern pattern
    · exact ⟨_, _, prbsWords_length 8 p.check.generator, Part.keyBurst_prbs prbs,
        prbsWords_continue p.check.generator⟩
  · exact s.next_part (Part.testRetryExpires_waiting (p := s.part.withLines ln) wait)
  · exact s.next_part (Part.testCarrierFalls_waiting wait)
  · exact s.next_part (Part.testLbtExpires_waiting wait)

end Sys2Proof.Machine
end

/-! # Steps: the proofs of the statements about the queue, and about commands whose event cannot happen -/

section
namespace Sys2Proof.Machine

/-! ## The queue (log 3) -/

theorem step_cons {s : State} {c : Instr} {rest : List Instr} (h : s.pending = c :: rest) :
    step s = exec c { s with pending := rest } := by
  rw [step, h]

theorem step_nil {s : State} (h : s.pending = []) : step s = .next s := by
  rw [step, h]

/-- Settles O1, by the queue's front. -/
theorem stepTakesFrontCommand : Obligations.StepTakesFrontCommand := by
  unfold Obligations.StepTakesFrontCommand
  exact ⟨fun _ _ _ => step_cons, fun _ => step_nil⟩

/-- Settles O2: every command is a run of moves of the part, and the queue is no part of it. -/
theorem everyCommandAnswersNext : Obligations.EveryCommandAnswersNext := by
  unfold Obligations.EveryCommandAnswersNext
  intro c s
  obtain ⟨t, answers, queue, -⟩ := exec_moves c s
  exact ⟨t, answers, queue⟩

end Sys2Proof.Machine
end

section
namespace Sys2Proof.Machine

variable {p : Part}

/-! ## Events of the memory path that cannot happen (log 5) -/

theorem Part.plainCommand_notPlain {c : BusCycle} (hr : p.pins.resetN = true)
    (h : classify p.bus.straps c ≠ .plain) : p.plainCommand c = p := by
  have idle : ¬(!p.pins.resetN ∨ classify p.bus.straps c = .plain) := by simp [hr, h]
  rw [Part.plainCommand, if_neg idle]

theorem Part.fallReset_low (pins : Straps) (c : Option BusCycle) (hr : p.pins.resetN = false) :
    p.fallReset pins c = p := by
  rw [Part.fallReset, if_neg (Bool.eq_false_iff.1 hr)]

theorem Part.riseReset_high (pins : Straps) (c : Option BusCycle) (hr : p.pins.resetN = true) :
    p.riseReset pins c = p := by
  rw [Part.riseReset, if_pos hr]

theorem Part.byteRead_data16 (k : Nat) (high : Bool) (hd : p.bus.straps.data8 = false) : p.byteRead k high = p := by
  rw [Part.byteRead, if_neg (Bool.eq_false_iff.1 hd)]

theorem Part.byteWrite_data16 (off : Nat) (high : Bool) (x : Byte) (hd : p.bus.straps.data8 = false) :
    p.byteWrite off high x = p := by
  rw [Part.byteWrite, if_neg (Bool.eq_false_iff.1 hd)]

/-! ## Timers of the scan that do not run -/

theorem Part.retryExpires_stopped (h : p.scan.retryTimer = false) : p.retryExpires = p := by
  rw [Part.retryExpires, if_neg (Bool.eq_false_iff.1 h)]

theorem Part.carrierFalls_stopped (h : p.scan.lbtTimer = none) : p.carrierFalls = p := by
  rw [Part.carrierFalls, h]
  rfl

theorem Part.lbtExpires_stopped (h : p.scan.lbtTimer = none) : p.lbtExpires = p := by
  rw [Part.lbtExpires, h]
  rfl

theorem Part.guardExpires_stopped (h : p.scan.guardTimer = none) : p.guardExpires = p := by
  rw [Part.guardExpires, h]
  rfl

/-! ## Events of a frame or a reply that is not on the air -/

theorem Part.headSent_noHead (h : ∀ words control next, p.scan.radio ≠ .head words control next) :
    p.headSent = p := by
  unfold Part.headSent
  split
  · next words control next sent => exact absurd sent (h words control next)
  · rfl

theorem Part.packetSent_noPacket (h : ∀ words, p.scan.radio ≠ .packet words) : p.packetSent = p := by
  unfold Part.packetSent
  split
  · next words sent => exact absurd sent (h words)
  · rfl

theorem Part.armReply_noTurnaround (h : p.scan.radio ≠ .turnaround) : p.armReply = p := by
  unfold Part.armReply
  split
  · next turning => exact absurd turning h
  · rfl

theorem Part.replyStarts_notWaiting (h : ∀ ticks, p.scan.radio ≠ .window ticks .nothing) : p.replyStarts = p := by
  unfold Part.replyStarts
  split
  · next ticks waiting => exact absurd waiting (h ticks)
  · rfl

theorem Part.replyIn_notStarted (r : Reply) (h : ∀ ticks, p.scan.radio ≠ .window ticks .started) :
    p.replyIn r = p := by
  unfold Part.replyIn
  split
  · next ticks _ _ started _ => exact absurd started (h ticks)
  · rfl

theorem Part.windowCloses_noWindow (h : ∀ ticks heard, p.scan.radio ≠ .window ticks heard) :
    p.windowCloses = p := by
  unfold Part.windowCloses
  split
  · next ticks heard _ _ shown _ => exact absurd shown (h ticks heard)
  · rfl

/-! ## A stage timer that does not run (R103, R104) -/

theorem Part.setIncident_self (p : Part) (k : Slot) : p.setIncident k (p.incident k) = p := by
  rw [Part.setIncident, Part.incident, Fin.getElem_fin, Vector.set_getElem_self]

theorem Part.stageExpires_notDue {k : Slot} (h : (p.incident k).state ≠ .calling ∨ (p.incident k).timer ≠ some 0) :
    p.stageExpires k = p := by
  rw [Part.stageExpires, if_neg]
  rw [Incident.timerDue, Bool.and_eq_true, decide_eq_true_iff, decide_eq_true_iff]
  exact not_and_or.2 h

theorem Incident.tick_stopped {i : Incident} (h : i.state ≠ .calling ∨ i.timer = none ∨ i.timer = some 0) :
    i.tick = i := by
  unfold Incident.tick
  split
  · next n calling running =>
    rcases h with other | stopped | spent
    · exact absurd calling other
    · exact nomatch stopped.symm.trans running
    · exact nomatch spent.symm.trans running
  · rfl

theorem Part.timerSecond_stopped {k : Slot} (h : (p.incident k).state ≠ .calling ∨ (p.incident k).timer = none ∨
    (p.incident k).timer = some 0) : p.timerSecond k = p := by
  rw [Part.timerSecond, Part.onIncident_eq, Incident.tick_stopped h, Part.setIncident_self]

/-! ## Events of a test that does not wait, send or listen -/

theorem Part.testRetryExpires_notWaiting (h : p.check.test ≠ .retryWait) : p.testRetryExpires = p := by
  unfold Part.testRetryExpires
  split
  · next waiting => exact absurd waiting h
  · rfl

theorem Part.testCarrierFalls_notWaiting (h : ∀ limit, p.check.test ≠ .channelWait limit) :
    p.testCarrierFalls = p := by
  unfold Part.testCarrierFalls
  split
  · next limit waiting => exact absurd waiting (h limit)
  · rfl

theorem Part.testLbtExpires_notWaiting (h : ∀ limit, p.check.test ≠ .channelWait limit) : p.testLbtExpires = p := by
  unfold Part.testLbtExpires
  split
  · next limit waiting => exact absurd waiting (h limit)
  · rfl

theorem Part.burstSent_notSending (h : ∀ words, p.check.test ≠ .sending words) : p.burstSent = p := by
  unfold Part.burstSent
  split
  · next words sending => exact absurd sending (h words)
  · rfl

theorem Part.armListen_noTurnaround (h : p.check.test ≠ .turnaround) : p.armListen = p := by
  unfold Part.armListen
  split
  · next turning => exact absurd turning h
  · rfl

theorem Part.leadInHeard_notSeeking (h : ∀ ticks, p.check.test ≠ .listening ticks .seeking) : p.leadInHeard = p := by
  unfold Part.leadInHeard
  split
  · next ticks seeking _ => exact absurd seeking (h ticks)
  · next ticks seeking _ => exact absurd seeking (h ticks)
  · rfl

/-- A burst with no mark set holds no lead-in (R164; log 22). -/
theorem Part.leadInHeard_noMarks (kind : p.check.kind = some .pattern)
    (marks : p.settings.active.link.patternMarks = 0) : p.leadInHeard = p := by
  unfold Part.leadInHeard
  split
  · exact if_pos marks
  · next prbs => exact nomatch kind.symm.trans prbs
  · rfl

theorem Part.patternWord_noPlace (w : Word)
    (h : ∀ ticks place rest, p.check.test ≠ .listening ticks (.pattern (place :: rest))) : p.patternWord w = p := by
  unfold Part.patternWord
  split
  · next ticks place rest aligned => exact absurd aligned (h ticks place rest)
  · rfl

theorem Part.prbsGroup_notChecking (w : Word) (h : ∀ ticks groups, p.check.test ≠ .listening ticks (.prbs groups)) :
    p.prbsGroup w = p := by
  unfold Part.prbsGroup
  split
  · next ticks groups checking => exact absurd checking (h ticks groups)
  · rfl

theorem Part.closeListen_notListening (h : ¬∃ ticks listen, p.check.test = .listening ticks listen) :
    p.closeListen = p := by
  unfold Part.closeListen
  split
  · next ticks listen listening => exact absurd ⟨ticks, listen, listening⟩ h
  · rfl

end Sys2Proof.Machine
end

section
namespace Sys2Proof.Machine

/-- Settles O54: each event by what it needs and the part lacks. The levels of RDY and CD that a command carries are
taken first, and give it none of that. -/
theorem impossibleEventsLeavePart : Obligations.ImpossibleEventsLeavePart := by
  unfold Obligations.ImpossibleEventsLeavePart
  intro s ln p kept lines listens
  let q := p.withLines ln
  exact ⟨fun high => ⟨fun pins c => s.next_part (Part.riseReset_high pins c high),
      fun c other => s.next_part (Part.plainCommand_notPlain high other)⟩,
    fun low pins c => s.next_part (Part.fallReset_low pins c low),
    fun words => ⟨fun k => ⟨s.next_part (Part.byteRead_data16 k false words),
        s.next_part (Part.byteRead_data16 k true words)⟩,
      fun off x => ⟨s.next_part (Part.byteWrite_data16 off false x words),
        s.next_part (Part.byteWrite_data16 (p := q) off true x words)⟩⟩,
    fun retry => s.next_part (Part.retryExpires_stopped (p := q) retry),
    fun channel => ⟨s.next_part (Part.carrierFalls_stopped channel), s.next_part (Part.lbtExpires_stopped channel)⟩,
    fun guard => s.next_part (Part.guardExpires_stopped (p := q) guard),
    fun radio => s.next_part (Part.headSent_noHead (p := q) radio),
    fun radio => s.next_part (Part.packetSent_noPacket radio),
    fun radio => s.next_part (Part.armReply_noTurnaround radio),
    fun radio => s.next_part (Part.replyStarts_notWaiting radio),
    fun radio r => s.next_part (Part.replyIn_notStarted (p := q) r radio),
    fun radio => s.next_part (Part.windowCloses_noWindow (p := q) radio),
    fun k => ⟨fun stage => s.next_part (Part.stageExpires_notDue (p := q) stage),
      fun stage => s.next_part (Part.timerSecond_stopped stage)⟩,
    fun test => s.next_part (Part.testRetryExpires_notWaiting (p := q) test),
    fun test => ⟨s.next_part (Part.testCarrierFalls_notWaiting test),
      s.next_part (Part.testLbtExpires_notWaiting test)⟩,
    fun test => s.next_part (Part.burstSent_notSending test),
    fun test => s.next_part (Part.armListen_noTurnaround test),
    fun deaf => s.next_part (deaf.elim Part.leadInHeard_notSeeking fun ⟨kind, marks⟩ =>
      Part.leadInHeard_noMarks kind marks),
    fun test w => s.next_part (Part.patternWord_noPlace (p := q) w test),
    fun test w => s.next_part (Part.prbsGroup_notChecking (p := q) w test),
    fun test => s.next_part (Part.closeListen_notListening (p := q) test)⟩

end Sys2Proof.Machine
end
